-- ==== Sys2Proof/Word.lean ====
section
/-! DEFINITION. The plain word types of the tulip8 core: bytes, 16-bit words, register numbers (00_scope R5, R6, R7). -/

namespace Sys2Proof

/-- A byte of memory, a general register or a timer: 8 bits, unsigned (R7, R21, R60). -/
abbrev Byte := BitVec 8

/-- An instruction word, `I`, `PC` or a stack entry: 16 bits, unsigned (R23, R24, R25, R90). -/
abbrev Word := BitVec 16

/-- The number of a general register, `V0`..`VF` (R21). -/
abbrev Reg := Fin 16

end Sys2Proof
end

