-- ==== Sys2Proof/Syntax.lean ====
section
/-! DEFINITION. The 34 instructions of 30_encoding R95, one constructor per row of spec/opcode_table.json, in the table's order. -/

namespace Sys2Proof

/-- The tulip8 opcode set (R95). Fields are those of R91: `x`, `y` register numbers, `nn` a byte, `nnn` a 12-bit
address, `n` the row count of a sprite. Operands are used as the unsigned value of their bits (R93). -/
inductive Instr where
  /-- `00E0` CLS: clear the framebuffer (R198). -/
  | cls
  /-- `00EE` RET: return from subroutine (R122). -/
  | ret
  /-- `1nnn` JP nnn (R120). -/
  | jp (nnn : BitVec 12)
  /-- `2nnn` CALL nnn (R121). -/
  | call (nnn : BitVec 12)
  /-- `3xnn` SE Vx, nn (R123). -/
  | seByte (x : Reg) (nn : Byte)
  /-- `4xnn` SNE Vx, nn (R124). -/
  | sneByte (x : Reg) (nn : Byte)
  /-- `5xy0` SE Vx, Vy (R125). -/
  | seReg (x y : Reg)
  /-- `6xnn` LD Vx, nn (R141). -/
  | ldByte (x : Reg) (nn : Byte)
  /-- `7xnn` ADD Vx, nn (R142). -/
  | addByte (x : Reg) (nn : Byte)
  /-- `8xy0` LD Vx, Vy (R144). -/
  | ldReg (x y : Reg)
  /-- `8xy1` OR Vx, Vy (R145). -/
  | orReg (x y : Reg)
  /-- `8xy2` AND Vx, Vy (R146). -/
  | andReg (x y : Reg)
  /-- `8xy3` XOR Vx, Vy (R147). -/
  | xorReg (x y : Reg)
  /-- `8xy4` ADD Vx, Vy (R148). -/
  | addReg (x y : Reg)
  /-- `8xy5` SUB Vx, Vy (R149). -/
  | sub (x y : Reg)
  /-- `8xy6` SHR Vx; `y` is decoded and ignored (R97, R150). -/
  | shr (x y : Reg)
  /-- `8xy7` SUBN Vx, Vy (R151). -/
  | subn (x y : Reg)
  /-- `8xyE` SHL Vx; `y` is decoded and ignored (R97, R152). -/
  | shl (x y : Reg)
  /-- `9xy0` SNE Vx, Vy (R126). -/
  | sneReg (x y : Reg)
  /-- `Annn` LD I, nnn (R171). -/
  | ldI (nnn : BitVec 12)
  /-- `Bnnn` JP V0, nnn (R127). -/
  | jpV0 (nnn : BitVec 12)
  /-- `Cxnn` RND Vx, nn (R155). -/
  | rnd (x : Reg) (nn : Byte)
  /-- `Dxyn` DRW Vx, Vy, n: `n` is a count of rows, 0 to 15 in any encoding (R199, R201). -/
  | drw (x y : Reg) (n : Nat)
  /-- `Ex9E` SKP Vx (R232). -/
  | skp (x : Reg)
  /-- `ExA1` SKNP Vx (R233). -/
  | sknp (x : Reg)
  /-- `Fx07` LD Vx, DT (R259). -/
  | ldVxDT (x : Reg)
  /-- `Fx0A` LD Vx, K: an architected no-operation; `x` is ignored (R97, R234). -/
  | ldVxK (x : Reg)
  /-- `Fx15` LD DT, Vx (R260). -/
  | ldDTVx (x : Reg)
  /-- `Fx18` LD ST, Vx (R261). -/
  | ldSTVx (x : Reg)
  /-- `Fx1E` ADD I, Vx (R172). -/
  | addI (x : Reg)
  /-- `Fx29` LD F, Vx (R173). -/
  | ldF (x : Reg)
  /-- `Fx33` LD B, Vx (R174). -/
  | ldB (x : Reg)
  /-- `Fx55` LD [I], Vx: `x` is the last register stored (R176). -/
  | storeRegs (x : Reg)
  /-- `Fx65` LD Vx, [I]: `x` is the last register loaded (R177). -/
  | loadRegs (x : Reg)
  deriving DecidableEq, Repr

end Sys2Proof
end

