-- ==== Sys2Proof/WellFormed.lean ====
section
/-! DEFINITION. Which instruction terms some word encodes. The types of `Syntax.lean` bound every field but one: the row
count of `Dxyn` is a count, and no encoding draws more than 15 rows (43_display_blitter R201). -/

namespace Sys2Proof

/-- An instruction some 16-bit word encodes: the row count of `Dxyn` is at most 15 (R91, R201). -/
def Instr.wellFormed : Instr → Bool
  | .drw _ _ n => n ≤ 15
  | .cls | .ret | .jp _ | .call _ | .seByte _ _ | .sneByte _ _ | .seReg _ _ | .ldByte _ _ | .addByte _ _
  | .ldReg _ _ | .orReg _ _ | .andReg _ _ | .xorReg _ _ | .addReg _ _ | .sub _ _ | .shr _ _ | .subn _ _ | .shl _ _
  | .sneReg _ _ | .ldI _ | .jpV0 _ | .rnd _ _ | .skp _ | .sknp _ | .ldVxDT _ | .ldVxK _ | .ldDTVx _ | .ldSTVx _
  | .addI _ | .ldF _ | .ldB _ | .storeRegs _ | .loadRegs _ => true

end Sys2Proof
end

