-- ==== Sys2Proof/Decode.lean ====
section
/-! DEFINITION. The decoder of 30_encoding (R90 to R97), total on any word and any bytes, then an encoder from the same
table, and the opcode table R95 itself as rows of mask and match. -/

namespace Sys2Proof

/-- Why bytes are no instruction. -/
inductive DecodeError where
  /-- The word matches no row of R95 (R96): a report of the step, not a stop. -/
  | unrecognizedOpcode (w : Word)
  /-- Fewer than the two bytes of an instruction were given (R90). -/
  | truncated (given : Nat)
  deriving DecidableEq, Repr

/-! ### Fields (R91) -/

/-- The family selector, `w[15:12]`. -/
def famOf (w : Word) : BitVec 4 := w.extractLsb' 12 4

/-- The register number of a 4-bit field (R93: all 16 values are legal). -/
def regOf (b : BitVec 4) : Reg := ⟨b.toNat, b.isLt⟩

/-- The field `x`, `w[11:8]`. -/
def xOf (w : Word) : Reg := regOf (w.extractLsb' 8 4)

/-- The field `y`, `w[7:4]`. -/
def yOf (w : Word) : Reg := regOf (w.extractLsb' 4 4)

/-- The field `n`, `w[3:0]`. -/
def nOf (w : Word) : BitVec 4 := w.extractLsb' 0 4

/-- The field `nn`, `w[7:0]`. -/
def nnOf (w : Word) : Byte := w.extractLsb' 0 8

/-- The field `nnn`, `w[11:0]`. -/
def nnnOf (w : Word) : BitVec 12 := w.extractLsb' 0 12

/-! ### Dispatch on two levels (R94) -/

/-- Family 0: the whole of `w[11:0]` selects (R94). -/
def decodeFam0 (w : Word) : Except DecodeError Instr :=
  match nnnOf w with
  | 0x0E0#12 => .ok .cls
  | 0x0EE#12 => .ok .ret
  | _ => .error (.unrecognizedOpcode w)

/-- Family 5: the function nibble must be 0 (R94). -/
def decodeFam5 (w : Word) : Except DecodeError Instr :=
  match nOf w with
  | 0x0#4 => .ok (.seReg (xOf w) (yOf w))
  | _ => .error (.unrecognizedOpcode w)

/-- Family 8: the function nibble selects (R94, R153). -/
def decodeFam8 (w : Word) : Except DecodeError Instr :=
  match nOf w with
  | 0x0#4 => .ok (.ldReg (xOf w) (yOf w))
  | 0x1#4 => .ok (.orReg (xOf w) (yOf w))
  | 0x2#4 => .ok (.andReg (xOf w) (yOf w))
  | 0x3#4 => .ok (.xorReg (xOf w) (yOf w))
  | 0x4#4 => .ok (.addReg (xOf w) (yOf w))
  | 0x5#4 => .ok (.sub (xOf w) (yOf w))
  | 0x6#4 => .ok (.shr (xOf w) (yOf w))
  | 0x7#4 => .ok (.subn (xOf w) (yOf w))
  | 0xE#4 => .ok (.shl (xOf w) (yOf w))
  | _ => .error (.unrecognizedOpcode w)

/-- Family 9: the function nibble must be 0 (R94). -/
def decodeFam9 (w : Word) : Except DecodeError Instr :=
  match nOf w with
  | 0x0#4 => .ok (.sneReg (xOf w) (yOf w))
  | _ => .error (.unrecognizedOpcode w)

/-- Family E: the byte `nn` selects (R94). -/
def decodeFamE (w : Word) : Except DecodeError Instr :=
  match nnOf w with
  | 0x9E#8 => .ok (.skp (xOf w))
  | 0xA1#8 => .ok (.sknp (xOf w))
  | _ => .error (.unrecognizedOpcode w)

/-- Family F: the byte `nn` selects (R94). -/
def decodeFamF (w : Word) : Except DecodeError Instr :=
  match nnOf w with
  | 0x07#8 => .ok (.ldVxDT (xOf w))
  | 0x0A#8 => .ok (.ldVxK (xOf w))
  | 0x15#8 => .ok (.ldDTVx (xOf w))
  | 0x18#8 => .ok (.ldSTVx (xOf w))
  | 0x1E#8 => .ok (.addI (xOf w))
  | 0x29#8 => .ok (.ldF (xOf w))
  | 0x33#8 => .ok (.ldB (xOf w))
  | 0x55#8 => .ok (.storeRegs (xOf w))
  | 0x65#8 => .ok (.loadRegs (xOf w))
  | _ => .error (.unrecognizedOpcode w)

/-- The decoder: a pure function of the word (R91), total (R99), dispatching by family and then within families 0, 5, 8,
9, E and F (R94, C3). The 16 families are all there are; the last arm is reached by no word. -/
def decode (w : Word) : Except DecodeError Instr :=
  match famOf w with
  | 0x0#4 => decodeFam0 w
  | 0x1#4 => .ok (.jp (nnnOf w))
  | 0x2#4 => .ok (.call (nnnOf w))
  | 0x3#4 => .ok (.seByte (xOf w) (nnOf w))
  | 0x4#4 => .ok (.sneByte (xOf w) (nnOf w))
  | 0x5#4 => decodeFam5 w
  | 0x6#4 => .ok (.ldByte (xOf w) (nnOf w))
  | 0x7#4 => .ok (.addByte (xOf w) (nnOf w))
  | 0x8#4 => decodeFam8 w
  | 0x9#4 => decodeFam9 w
  | 0xA#4 => .ok (.ldI (nnnOf w))
  | 0xB#4 => .ok (.jpV0 (nnnOf w))
  | 0xC#4 => .ok (.rnd (xOf w) (nnOf w))
  | 0xD#4 => .ok (.drw (xOf w) (yOf w) (nOf w).toNat)
  | 0xE#4 => decodeFamE w
  | 0xF#4 => decodeFamF w
  | _ => .error (.unrecognizedOpcode w)

/-- The word of two bytes in the order fetch reads them: the first is the high byte (R62). -/
def wordOfBytes (hi lo : Byte) : Word := hi ++ lo

/-- The two bytes of a word as memory holds them, big-endian (R62, R90). -/
def bytesOfWord (w : Word) : List Byte := [w.extractLsb' 8 8, w.extractLsb' 0 8]

/-- The decoder on bytes: reads one instruction and gives the bytes after it (R90). -/
def decodeBytes : List Byte → Except DecodeError (Instr × List Byte)
  | hi :: lo :: rest =>
    match decode (wordOfBytes hi lo) with
    | .ok i => .ok (i, rest)
    | .error e => .error e
  | bs => .error (.truncated bs.length)

/-! ### The encoder (R92, R95) -/

/-- The 4 bits of a register number. -/
def regBits (r : Reg) : BitVec 4 := BitVec.ofNat 4 r.val

/-- Format `A`: family, address (R92). -/
def encodeA (fam : BitVec 4) (nnn : BitVec 12) : Word := fam ++ nnn

/-- Format `XB`, and format `XF` with a fixed `nn`: family, register, byte (R92). -/
def encodeXB (fam : BitVec 4) (x : Reg) (nn : Byte) : Word := fam ++ (regBits x ++ nn)

/-- Formats `XYF` and `XYN`: family, two registers, nibble (R92). -/
def encodeXYN (fam : BitVec 4) (x y : Reg) (n : BitVec 4) : Word := fam ++ (regBits x ++ (regBits y ++ n))

/-- The word of an instruction (R92, R95). Of a row count above 15, which no word encodes, only the low 4 bits are kept;
such a term is not well-formed. -/
def encode : Instr → Word
  | .cls => 0x00E0#16
  | .ret => 0x00EE#16
  | .jp nnn => encodeA 0x1#4 nnn
  | .call nnn => encodeA 0x2#4 nnn
  | .seByte x nn => encodeXB 0x3#4 x nn
  | .sneByte x nn => encodeXB 0x4#4 x nn
  | .seReg x y => encodeXYN 0x5#4 x y 0x0#4
  | .ldByte x nn => encodeXB 0x6#4 x nn
  | .addByte x nn => encodeXB 0x7#4 x nn
  | .ldReg x y => encodeXYN 0x8#4 x y 0x0#4
  | .orReg x y => encodeXYN 0x8#4 x y 0x1#4
  | .andReg x y => encodeXYN 0x8#4 x y 0x2#4
  | .xorReg x y => encodeXYN 0x8#4 x y 0x3#4
  | .addReg x y => encodeXYN 0x8#4 x y 0x4#4
  | .sub x y => encodeXYN 0x8#4 x y 0x5#4
  | .shr x y => encodeXYN 0x8#4 x y 0x6#4
  | .subn x y => encodeXYN 0x8#4 x y 0x7#4
  | .shl x y => encodeXYN 0x8#4 x y 0xE#4
  | .sneReg x y => encodeXYN 0x9#4 x y 0x0#4
  | .ldI nnn => encodeA 0xA#4 nnn
  | .jpV0 nnn => encodeA 0xB#4 nnn
  | .rnd x nn => encodeXB 0xC#4 x nn
  | .drw x y n => encodeXYN 0xD#4 x y (BitVec.ofNat 4 n)
  | .skp x => encodeXB 0xE#4 x 0x9E#8
  | .sknp x => encodeXB 0xE#4 x 0xA1#8
  | .ldVxDT x => encodeXB 0xF#4 x 0x07#8
  | .ldVxK x => encodeXB 0xF#4 x 0x0A#8
  | .ldDTVx x => encodeXB 0xF#4 x 0x15#8
  | .ldSTVx x => encodeXB 0xF#4 x 0x18#8
  | .addI x => encodeXB 0xF#4 x 0x1E#8
  | .ldF x => encodeXB 0xF#4 x 0x29#8
  | .ldB x => encodeXB 0xF#4 x 0x33#8
  | .storeRegs x => encodeXB 0xF#4 x 0x55#8
  | .loadRegs x => encodeXB 0xF#4 x 0x65#8

/-- The bytes of an instruction, in memory order (R62, R90). -/
def encodeBytes (i : Instr) : List Byte := bytesOfWord (encode i)

/-! ### The opcode table (R95) -/

/-- One row of the opcode map of R95: a word matches it when `w AND mask = pattern`. -/
structure OpcodeRow where
  /-- The bits that are fixed. -/
  mask : Word
  /-- Their values: the column `match` of R95. -/
  pattern : Word
  deriving DecidableEq, Repr

/-- Does the word match the row (R94)? -/
def OpcodeRow.holds (r : OpcodeRow) (w : Word) : Bool := w &&& r.mask == r.pattern

/-- The 34 rows of R95, in order. -/
def opcodeTable : List OpcodeRow :=
  [⟨0xFFFF, 0x00E0⟩, ⟨0xFFFF, 0x00EE⟩, ⟨0xF000, 0x1000⟩, ⟨0xF000, 0x2000⟩, ⟨0xF000, 0x3000⟩, ⟨0xF000, 0x4000⟩,
   ⟨0xF00F, 0x5000⟩, ⟨0xF000, 0x6000⟩, ⟨0xF000, 0x7000⟩] ++
  [⟨0xF00F, 0x8000⟩, ⟨0xF00F, 0x8001⟩, ⟨0xF00F, 0x8002⟩, ⟨0xF00F, 0x8003⟩, ⟨0xF00F, 0x8004⟩, ⟨0xF00F, 0x8005⟩,
   ⟨0xF00F, 0x8006⟩, ⟨0xF00F, 0x8007⟩, ⟨0xF00F, 0x800E⟩, ⟨0xF00F, 0x9000⟩] ++
  [⟨0xF000, 0xA000⟩, ⟨0xF000, 0xB000⟩, ⟨0xF000, 0xC000⟩, ⟨0xF000, 0xD000⟩, ⟨0xF0FF, 0xE09E⟩, ⟨0xF0FF, 0xE0A1⟩] ++
  [⟨0xF0FF, 0xF007⟩, ⟨0xF0FF, 0xF00A⟩, ⟨0xF0FF, 0xF015⟩, ⟨0xF0FF, 0xF018⟩, ⟨0xF0FF, 0xF01E⟩, ⟨0xF0FF, 0xF029⟩,
   ⟨0xF0FF, 0xF033⟩, ⟨0xF0FF, 0xF055⟩, ⟨0xF0FF, 0xF065⟩]

/-- The row of R95 an instruction stands in. -/
def rowOf : Instr → OpcodeRow
  | .cls => ⟨0xFFFF, 0x00E0⟩
  | .ret => ⟨0xFFFF, 0x00EE⟩
  | .jp _ => ⟨0xF000, 0x1000⟩
  | .call _ => ⟨0xF000, 0x2000⟩
  | .seByte _ _ => ⟨0xF000, 0x3000⟩
  | .sneByte _ _ => ⟨0xF000, 0x4000⟩
  | .seReg _ _ => ⟨0xF00F, 0x5000⟩
  | .ldByte _ _ => ⟨0xF000, 0x6000⟩
  | .addByte _ _ => ⟨0xF000, 0x7000⟩
  | .ldReg _ _ => ⟨0xF00F, 0x8000⟩
  | .orReg _ _ => ⟨0xF00F, 0x8001⟩
  | .andReg _ _ => ⟨0xF00F, 0x8002⟩
  | .xorReg _ _ => ⟨0xF00F, 0x8003⟩
  | .addReg _ _ => ⟨0xF00F, 0x8004⟩
  | .sub _ _ => ⟨0xF00F, 0x8005⟩
  | .shr _ _ => ⟨0xF00F, 0x8006⟩
  | .subn _ _ => ⟨0xF00F, 0x8007⟩
  | .shl _ _ => ⟨0xF00F, 0x800E⟩
  | .sneReg _ _ => ⟨0xF00F, 0x9000⟩
  | .ldI _ => ⟨0xF000, 0xA000⟩
  | .jpV0 _ => ⟨0xF000, 0xB000⟩
  | .rnd _ _ => ⟨0xF000, 0xC000⟩
  | .drw _ _ _ => ⟨0xF000, 0xD000⟩
  | .skp _ => ⟨0xF0FF, 0xE09E⟩
  | .sknp _ => ⟨0xF0FF, 0xE0A1⟩
  | .ldVxDT _ => ⟨0xF0FF, 0xF007⟩
  | .ldVxK _ => ⟨0xF0FF, 0xF00A⟩
  | .ldDTVx _ => ⟨0xF0FF, 0xF015⟩
  | .ldSTVx _ => ⟨0xF0FF, 0xF018⟩
  | .addI _ => ⟨0xF0FF, 0xF01E⟩
  | .ldF _ => ⟨0xF0FF, 0xF029⟩
  | .ldB _ => ⟨0xF0FF, 0xF033⟩
  | .storeRegs _ => ⟨0xF0FF, 0xF055⟩
  | .loadRegs _ => ⟨0xF0FF, 0xF065⟩

/-! ### The host's question to the decoder -/

/-- The instruction's first `nbits` bits `w`, numbered as spec/opcode_table.json numbers them, as the instruction's word:
bits at or above `nbits` are 0. The one word is 16 bits and the table's bit 15 is its most significant. -/
def tableWord (nbits w : Nat) : Word := BitVec.ofNat 16 (w % 2 ^ nbits)

/-- What the decoder reads from the bytes of that word, laid out as memory holds them (R62). -/
def decodeTableWord (nbits w : Nat) : Option Instr :=
  match decodeBytes (bytesOfWord (tableWord nbits w)) with
  | .ok (i, _) => some i
  | .error _ => none

end Sys2Proof
end

