-- ==== Sys2Proof/Config.lean ====
section
/-! DEFINITION. What is fixed for a machine and what is free: the constants of 00_scope R5, the construction arguments
(R5, R289) as the type `Params`, and the free values a host's command supplies (R156, R222). -/

namespace Sys2Proof

/-- The last address of the 4096-byte memory (R5 `MEM_SIZE`, R60). -/
def Config.lastAddr : Nat := 4095

/-- The last address a fetch can start at (R285). -/
def Config.lastFetch : Nat := 4094

/-- Where programs are loaded and `PC` starts (R5 `PROG_BASE`). -/
def Config.progBase : Nat := 0x200

/-- The longest program, 4096 - 0x200 bytes (R5 `MAX_PROG_LEN`). -/
def Config.maxProgLen : Nat := 3584

/-- The address of the font (R5 `FONT_BASE`). -/
def Config.fontBase : Nat := 0x50

/-- The length of the font (R5 `FONT_LEN`). -/
def Config.fontLen : Nat := 80

@[simp] theorem Config.lastAddr_eq : Config.lastAddr = 4095 := rfl
@[simp] theorem Config.lastFetch_eq : Config.lastFetch = 4094 := rfl
@[simp] theorem Config.progBase_eq : Config.progBase = 0x200 := rfl
@[simp] theorem Config.maxProgLen_eq : Config.maxProgLen = 3584 := rfl
@[simp] theorem Config.fontBase_eq : Config.fontBase = 0x50 := rfl
@[simp] theorem Config.fontLen_eq : Config.fontLen = 80 := rfl

/-- The arguments a machine is constructed with and keeps for life (R5, R289). The model takes them as given: every
statement about a state holds for every value of them. DESIGN CHOICE (log 1): they stand in `State` as plain data, since
`exec` and `step` take nothing but the state. -/
structure Params where
  /-- The 75 bytes of `FONT` the source does not give: glyphs 1 to F, five rows each; glyph 0 is fixed (R68). -/
  glyphs : Vector (Vector Byte 5) 15
  /-- `DEBOUNCE_MS`, the debounce window in milliseconds (R5, R230). -/
  debounceMs : Nat
  /-- The host's `screenWidth` (R289). -/
  screenWidth : Nat
  /-- The host's `screenHeight` (R289). -/
  screenHeight : Nat
  deriving DecidableEq, Repr

/-- FREE VALUE (log 3): by how much the host's clock has risen when a host that has queued no command calls `step`;
nothing is known of it. The clock is monotonic (R222), so a sample is the last sample plus such a gap. -/
opaque Config.clockGap : Nat → Nat

/-- FREE VALUE (log 4): the draw `rnd` of a `step` the host did not queue; any byte, under no law (R156). -/
opaque Config.freeDraw : Nat → Byte

end Sys2Proof
end

