-- ==== Sys2Proof/Machine/Font.lean ====
section
/-! DEFINITION. The font of 20_memory R68 and the contents memory has after reset (R40, R67): what an unlisted address of
the memory reads as. -/

namespace Sys2Proof.Machine

/-- Glyph 0, the only glyph the source gives: `F0 90 90 90 F0` (R5, R68). -/
def fontGlyph0 : Vector Byte 5 := #v[0xF0, 0x90, 0x90, 0x90, 0xF0]

/-- Glyphs 1 to 8 of the spec's default table (R68). PRESUMED (log 1): the spec marks them as general knowledge. -/
def fontDefaultLow : Vector (Vector Byte 5) 8 :=
  #v[#v[0x20, 0x60, 0x20, 0x20, 0x70], #v[0xF0, 0x10, 0xF0, 0x80, 0xF0], #v[0xF0, 0x10, 0xF0, 0x10, 0xF0],
     #v[0x90, 0x90, 0xF0, 0x10, 0x10], #v[0xF0, 0x80, 0xF0, 0x10, 0xF0], #v[0xF0, 0x80, 0xF0, 0x90, 0xF0],
     #v[0xF0, 0x10, 0x20, 0x40, 0x40], #v[0xF0, 0x90, 0xF0, 0x90, 0xF0]]

/-- Glyphs 9 to F of the spec's default table (R68). PRESUMED (log 1). -/
def fontDefaultHigh : Vector (Vector Byte 5) 7 :=
  #v[#v[0xF0, 0x90, 0xF0, 0x10, 0xF0], #v[0xF0, 0x90, 0xF0, 0x90, 0x90], #v[0xE0, 0x90, 0xE0, 0x90, 0xE0],
     #v[0xF0, 0x80, 0x80, 0x80, 0xF0], #v[0xE0, 0x90, 0x90, 0x90, 0xE0], #v[0xF0, 0x80, 0xF0, 0x80, 0xF0],
     #v[0xF0, 0x80, 0xF0, 0x80, 0x80]]

/-- The arguments of the machine `State.reset` describes: the defaults of R5 and R68, and a screen of 64 by 32, which
makes `SCALE` 1. DESIGN CHOICE (log 1): no statement rests on them. -/
def defaultParams : Params :=
  { glyphs := fontDefaultLow ++ fontDefaultHigh
    debounceMs := 200
    screenWidth := 64
    screenHeight := 32 }

/-- Row `r` of glyph `g` (R68): glyph 0 is fixed, the others are the argument's. -/
def glyphByte (p : Params) (g r : Nat) : Byte :=
  match g with
  | 0 => fontGlyph0[r % 5]'(Nat.mod_lt _ (by decide))
  | g + 1 => (p.glyphs[g % 15]'(Nat.mod_lt _ (by decide)))[r % 5]'(Nat.mod_lt _ (by decide))

/-- `FONT[j]`, glyph `g` being `FONT[5g .. 5g + 4]` (R68). -/
def fontByte (p : Params) (j : Nat) : Byte := glyphByte p (j / 5) (j % 5)

/-- The byte at address `a` after reset: the font at `0x50 .. 0x9F`, 0 elsewhere (R40, R67). It is what an address the
memory does not list reads as. -/
def initByte (p : Params) (a : Nat) : Byte :=
  if Config.fontBase ≤ a ∧ a < Config.fontBase + Config.fontLen then fontByte p (a - Config.fontBase) else 0

/-- `SCALE`, by floor division (R208, R289). -/
def scaleOf (p : Params) : Nat := min (p.screenWidth / 64) (p.screenHeight / 32)

end Sys2Proof.Machine
end

