-- ==== Sys2Proof/Machine/State.lean ====
section
/-! DEFINITION. The state of 10_state R20, every component of it, the model's own fields beside it, and the state after
reset (R40). -/

namespace Sys2Proof.Machine

/-- The nine causes of 60_exceptions R321. -/
inductive Cause where
  /-- Code 1, a report: the fetched word matches no row of R95. -/
  | unrecognizedOpcode
  /-- Code 2, a fault of `Fx33`, `Fx55`. -/
  | memWriteBounds
  /-- Code 3, a fault of `2nnn`. -/
  | stackOverflow
  /-- Code 4, a fault of `00EE`. -/
  | stackUnderflow
  /-- Code 5, a fault of `loadProgram`. -/
  | loadBounds
  /-- Code 6, invalid input of `press`, `release`. -/
  | unknownKeySymbol
  /-- Code 7, a fault of the fetch. -/
  | fetchBounds
  /-- Code 8, a fault of `Dxyn`, `Fx65`. -/
  | memReadBounds
  /-- Code 9, a fault of `Ex9E`, `ExA1`. -/
  | keyIndexRange
  deriving DecidableEq, Repr

/-- A key symbol as the host gives it: a string of characters, in the key map or not (44_keypad_debounce R224; log 9). -/
abbrev Symbol := List Char

/-- The result of a command (46_scheduler_and_host R281). -/
inductive Result where
  /-- `Ok`: the command did what its rule says. -/
  | ok
  /-- `Stopped`: `step` was called while STOPPED, nothing happened. -/
  | stopped
  /-- `Fault(cause, info)`: the command was cut short (R326). -/
  | fault (cause : Cause) (info : Nat)
  /-- `Invalid(UnknownKeySymbol, sym)`: nothing happened. -/
  | invalid (cause : Cause) (sym : Symbol)
  deriving DecidableEq, Repr

/-- An event of a command (R281). -/
inductive Event where
  /-- `DIAG(cause, w, a)`: the report of an unrecognized word and its address (R322). -/
  | diag (cause : Cause) (w : Word) (a : Nat)
  /-- `AUDIO(on | off)` (45_timers R257). -/
  | audio (on : Bool)
  /-- `PIXEL(x, y, scale, on)` (43_display_blitter R208). -/
  | pixel (x y scale : Nat) (on : Bool)
  deriving DecidableEq, Repr

/-- A command of the host with its inputs (R280). `construct` is no command to an existing machine: it is
`State.construct`. -/
inductive Command where
  /-- `reset` (R288). -/
  | reset
  /-- `start` (R283). -/
  | start
  /-- `stop` (R283). -/
  | stop
  /-- `step(now, rnd)` (R284). -/
  | step (now : Nat) (rnd : Byte)
  /-- `press(sym, now)` (44_keypad_debounce R225). -/
  | press (sym : Symbol) (now : Nat)
  /-- `release(sym)` (R226). -/
  | release (sym : Symbol)
  /-- `loadProgram(bytes)` (R290). -/
  | loadProgram (bytes : List Byte)
  deriving DecidableEq, Repr

/-- The main memory (20_memory R60): the (address, byte) pairs that differ from the contents after reset, addresses
strictly rising (log 7). -/
abbrev Memory := List Host.Cell

/-- The framebuffer (R32): 32 rows, top first, of 64 pixels, left first. -/
abbrev Frame := Vector (Vector Bool 64) 32

/-- The whole state (R20), with the spec's names, and after it the model's own fields. -/
structure State where
  /-- `mem`, 4096 bytes (R60). -/
  mem : Memory
  /-- `V[0]`..`V[15]` (R21); `V[15]` is `VF`, the one flag (R22). -/
  V : Vector Byte 16
  /-- `I`, the index register (R23). -/
  I : Word
  /-- `PC`, the program counter (R24). -/
  PC : Word
  /-- `stack[0]`..`stack[15]` (R25). -/
  stack : Vector Word 16
  /-- `SP`, 0 to 16, the next free slot (R26). -/
  SP : Fin 17
  /-- `DT`, the delay timer (R27). -/
  DT : Byte
  /-- `ST`, the sound timer (R28). -/
  ST : Byte
  /-- `sounding`: audio-on was sent and audio-off was not (R29). -/
  sounding : Bool
  /-- `key[k]`: pressed (R30). -/
  key : Vector Bool 16
  /-- `stamp[k]`: the clock at the last press, in milliseconds (R31). -/
  stamp : Vector Nat 16
  /-- `FB` (R32). -/
  FB : Frame
  /-- `dirty`: the framebuffer changed since the last flush (R33). -/
  dirty : Bool
  /-- `running`: RUNNING or STOPPED (R34). -/
  running : Bool
  /-- The model's own: the construction arguments, fixed for life (R5, R289; log 1). -/
  params : Params
  /-- The model's own: the draw of the step in progress (R156; log 4). -/
  rnd : Byte
  /-- The model's own: commands the host has issued and the core has not taken, oldest first (R280; log 2). -/
  pending : List Command
  /-- The model's own: the last clock sample taken (R222; log 3). -/
  clock : Nat
  /-- The model's own: how many steps were taken while RUNNING, the argument of the free values (log 3). -/
  draws : Nat
  /-- The model's own: the result of the last command (R281; log 5). -/
  result : Result
  /-- The model's own: the events of the last command, in order (R281; log 5). -/
  events : List Event
  deriving DecidableEq, Repr

/-- Why the machine stops. It has no constructor: nothing in this machine is stuck, every command in every state has a
defined result (93_implementation_defined Part 1), and a fault of the spec ends a command, not the machine: it is a next
state that records `Result.fault` (R326, R327; log 5). -/
inductive Fault where
  deriving DecidableEq, Repr

/-- Why an instruction has no meaning. -/
inductive Refusal where
  /-- Raised by an arm of `exec` whose instruction has no meaning yet; no arm does. Safe: a run stops there. -/
  | notModelled (mnemonic : String)
  deriving DecidableEq, Repr

/-- What a step answers. -/
abbrev Outcome := Host.Outcome State Fault Refusal

/-- `construct`: a new machine with the given arguments, in the reset state of R40 (R289, D35). -/
def State.construct (p : Params) : State :=
  { mem := []
    V := .replicate 16 0
    I := 0
    PC := 0x200
    stack := .replicate 16 0
    SP := 0
    DT := 0
    ST := 0
    sounding := false
    key := .replicate 16 false
    stamp := .replicate 16 0
    FB := .replicate 32 (.replicate 64 false)
    dirty := false
    running := false
    params := p
    rnd := 0
    pending := []
    clock := 0
    draws := 0
    result := .ok
    events := [] }

/-- The machine right after reset (R40), with the default arguments (log 1) and no command queued. -/
def State.reset : State := State.construct defaultParams

end Sys2Proof.Machine
end

