-- ==== Sys2Proof/Machine/Ops.lean ====
section
/-! DEFINITION. The named operations over memory, registers, the call stack and the output of a command, and raising a
fault, which every faulting rule shares. -/

namespace Sys2Proof.Machine

/-! ### Memory (20_memory R60 to R70) -/

/-- The byte the list holds for an address, if it lists it. -/
def Memory.lookup : Memory → Nat → Option Byte
  | [], _ => none
  | c :: m, a => if c.1 = a then some c.2 else Memory.lookup m a

/-- The list without the entry of an address. -/
def Memory.remove : Memory → Nat → Memory
  | [], _ => []
  | c :: m, a => if c.1 = a then Memory.remove m a else c :: Memory.remove m a

/-- The list with an entry for the address, addresses kept rising. -/
def Memory.insert : Memory → Nat → Byte → Memory
  | [], a, v => [(a, v)]
  | c :: m, a, v =>
    if a < c.1 then (a, v) :: c :: m
    else if a = c.1 then (a, v) :: m
    else c :: Memory.insert m a v

/-- The byte at an address: what the list holds, else the contents after reset (R40, R67, R70). -/
def Memory.read (p : Params) (m : Memory) (a : Nat) : Byte := (Memory.lookup m a).getD (initByte p a)

/-- The memory with one byte changed, in canonical form: the value an unlisted address reads as is not listed. -/
def Memory.write (p : Params) (m : Memory) (a : Nat) (v : Byte) : Memory :=
  if v = initByte p a then Memory.remove m a else Memory.insert m a v

/-- The canonical form: addresses strictly rising, all of them in 0..4095, and no entry equal to what an unlisted
address reads as. -/
abbrev Memory.wf (p : Params) (m : Memory) : Prop :=
  m.Pairwise (fun c d => c.1 < d.1) ∧ ∀ c ∈ m, c.1 ≤ Config.lastAddr ∧ c.2 ≠ initByte p c.1

/-- `MemRead(a, 1)` (R65). It is defined for `a ≤ 4095`; every reader checks that bound first (R77), so what it gives
above is never used. -/
def State.readByte (s : State) (a : Nat) : Byte := Memory.read s.params s.mem a

/-- `MemWrite(a, 1, v)` (R66): above 4095 the write does not happen. -/
def State.writeByte (s : State) (a : Nat) (v : Byte) : State :=
  if a ≤ Config.lastAddr then { s with mem := Memory.write s.params s.mem a v } else s

/-- Bytes written one at a time at ascending addresses (R63). -/
def State.writeBytes : State → Nat → List Byte → State
  | s, _, [] => s
  | s, a, v :: vs => (s.writeByte a v).writeBytes (a + 1) vs

/-- `n` bytes read one at a time at ascending addresses (R63). -/
def State.readBytes (s : State) (a n : Nat) : List Byte := (List.range n).map fun j => s.readByte (a + j)

/-! ### Registers (10_state R21 to R24) -/

/-- `V[r]`. -/
def State.getV (s : State) (r : Reg) : Byte := s.V[r.val]

/-- `V[r] <- v`. -/
def State.setV (s : State) (r : Reg) (v : Byte) : State := { s with V := s.V.set r.val v }

/-- `I <- v`. -/
def State.setI (s : State) (v : Word) : State := { s with I := v }

/-- `PC <- v`; targets are not checked (40_control_flow R129). -/
def State.setPC (s : State) (v : Word) : State := { s with PC := v }

/-- `DT <- v` (45_timers R260). -/
def State.setDT (s : State) (v : Byte) : State := { s with DT := v }

/-- `ST <- v` (R261); `sounding` is the tick's. -/
def State.setST (s : State) (v : Byte) : State := { s with ST := v }

/-- Registers from number `k` up, loaded from bytes in ascending order (42_index_memory R175, R177). -/
def State.setRegs : State → Nat → List Byte → State
  | s, _, [] => s
  | s, k, v :: vs => (s.setV (Fin.ofNat 16 k) v).setRegs (k + 1) vs

/-- `V[0]`..`V[x]`, in ascending order (R175). -/
def State.regsUpTo (s : State) (x : Reg) : List Byte := s.V.toList.take (x.val + 1)

/-! ### Raising a fault (60_exceptions R326, R327) -/

/-- `raise cause(info)`: the command ends with the result `Fault(cause, info)` and nothing else changes. Nothing is saved
in the machine, control goes nowhere and `running` is unchanged; the host goes on with the state left (R326, R327). There
is no return from a fault (R328). -/
def State.takeFault (s : State) (cause : Cause) (info : Nat) : State := { s with result := .fault cause info }

/-- Did the command in progress fault? -/
def State.faulted (s : State) : Bool :=
  match s.result with
  | .fault _ _ => true
  | .ok | .stopped | .invalid _ _ => false

/-- `emit e`: the event is appended to the output of the command (R281). -/
def State.emit (s : State) (e : Event) : State := { s with events := s.events ++ [e] }

/-- The numeric code of a cause (R321). -/
def causeCode : Cause → Nat
  | .unrecognizedOpcode => 1
  | .memWriteBounds => 2
  | .stackOverflow => 3
  | .stackUnderflow => 4
  | .loadBounds => 5
  | .unknownKeySymbol => 6
  | .fetchBounds => 7
  | .memReadBounds => 8
  | .keyIndexRange => 9

/-! ### The call stack (10_state R25, R26; 40_control_flow R121, R122) -/

/-- Push a return address: `stack[SP] <- v; SP <- SP + 1`, or the fault StackOverflow when `SP = 16`. -/
def State.push (s : State) (v : Word) : State :=
  if h : s.SP.val < 16 then
    { s with stack := s.stack.set s.SP.val v h, SP := ⟨s.SP.val + 1, Nat.succ_lt_succ h⟩ }
  else s.takeFault .stackOverflow s.PC.toNat

/-- The entry a return reads, `stack[SP - 1]`, when there is one. -/
def State.stackTop (s : State) : Option Word := if s.SP.val = 0 then none else s.stack[s.SP.val - 1]?

/-- `SP <- SP - 1`; the entry is not erased (R25). -/
def State.dropTop (s : State) : State :=
  { s with SP := ⟨s.SP.val - 1, Nat.lt_of_le_of_lt (Nat.sub_le _ _) s.SP.isLt⟩ }

/-! ### Fetch (20_memory R62; 46_scheduler_and_host R284, R285) -/

/-- May the two bytes at `PC` be fetched: `PC ≤ 4094` (R285)? -/
def State.canFetch (s : State) : Bool := s.PC.toNat ≤ Config.lastFetch

/-- The word at `PC`, big-endian (R62). -/
def State.fetchWord (s : State) : Word := wordOfBytes (s.readByte s.PC.toNat) (s.readByte (s.PC.toNat + 1))

/-- `PC <- (PC + 2) mod 2^16` (R24, R284 phase 3). -/
def State.advancePC (s : State) : State := s.setPC (s.PC + 2)

end Sys2Proof.Machine
end

