-- ==== Sys2Proof/Machine/Operands.lean ====
section
/-! DEFINITION. Every operand form: immediates (30_encoding R93), the one addressing mode (42_index_memory R170), the
computed targets and addresses of `Bnnn` and `Fx29`, decimal digits, key codes, and the skip. -/

namespace Sys2Proof.Machine

/-- `zext_16(nnn)` (R93). -/
def zextAddr (nnn : BitVec 12) : Word := nnn.setWidth 16

/-- `zext_16(v)` of a byte (R7). -/
def zextByte (v : Byte) : Word := v.setWidth 16

/-- The effective address of byte `j` of an access through `I`: the unbounded integer `I + j` (R170). -/
def State.ea (s : State) (j : Nat) : Nat := s.I.toNat + j

/-- Are all of the `len` addresses from `I` on at most 4095 (R65, R66, R77)? An empty range is. -/
def State.rangeOk (s : State) (len : Nat) : Bool := len = 0 || s.I.toNat + len ≤ Config.lastAddr + 1

/-- The target of `Bnnn`: `(zext_16(nnn) + zext_16(V[0])) mod 2^16` (40_control_flow R127). -/
def State.jumpOffset (s : State) (nnn : BitVec 12) : Word := zextAddr nnn + zextByte (s.getV 0)

/-- The address of a glyph: `zext_16(v) * 5 + 0x50`, of the whole byte (42_index_memory R173). -/
def glyphAddr (v : Byte) : Word := zextByte v * 5 + 0x50

/-- `I` moved on by a block of `x + 1` bytes, `mod 2^16` (R175). -/
def State.indexPast (s : State) (x : Reg) : Word := s.I + BitVec.ofNat 16 (x.val + 1)

/-- Hundreds, tens and ones of a byte, the order in which `Fx33` stores them (R174). -/
def bcdDigits (v : Byte) : List Byte :=
  [BitVec.ofNat 8 (v.toNat / 100), BitVec.ofNat 8 (v.toNat / 10 % 10), BitVec.ofNat 8 (v.toNat % 10)]

/-- A taken skip adds 2 to the post-increment `PC`, `mod 2^16` (40_control_flow R123 to R126, R128). -/
def State.skipIf (s : State) (taken : Bool) : State := if taken then s.setPC (s.PC + 2) else s

/-- `key[k]` for a key code taken from a register; none above 15 (44_keypad_debounce R235). -/
def State.keyAt (s : State) (v : Byte) : Option Bool := s.key[v.toNat]?

end Sys2Proof.Machine
end

