-- ==== Sys2Proof/Machine/ControlFlow.lean ====
section
/-! DEFINITION. The control-flow instructions of 40_control_flow. `PC` holds the post-increment value (R128). -/

namespace Sys2Proof.Machine

/-- `1nnn` (R120). -/
def execJp (nnn : BitVec 12) (s : State) : Outcome := .next (s.setPC (zextAddr nnn))

/-- `2nnn` (R121): pushes the post-increment `PC`; with a full stack the fault StackOverflow and no jump. -/
def execCall (nnn : BitVec 12) (s : State) : Outcome :=
  if s.SP.val < 16 then .next ((s.push s.PC).setPC (zextAddr nnn))
  else .next (s.takeFault .stackOverflow s.PC.toNat)

/-- `00EE` (R122): pops into `PC`; with an empty stack the fault StackUnderflow. -/
def execRet (s : State) : Outcome :=
  match s.stackTop with
  | some a => .next (s.dropTop.setPC a)
  | none => .next (s.takeFault .stackUnderflow s.PC.toNat)

/-- `Bnnn` (R127). -/
def execJpV0 (nnn : BitVec 12) (s : State) : Outcome := .next (s.setPC (s.jumpOffset nnn))

/-- `3xnn` (R123). -/
def execSeByte (x : Reg) (nn : Byte) (s : State) : Outcome := .next (s.skipIf (s.getV x == nn))

/-- `4xnn` (R124). -/
def execSneByte (x : Reg) (nn : Byte) (s : State) : Outcome := .next (s.skipIf (s.getV x != nn))

/-- `5xy0` (R125). -/
def execSeReg (x y : Reg) (s : State) : Outcome := .next (s.skipIf (s.getV x == s.getV y))

/-- `9xy0` (R126). -/
def execSneReg (x y : Reg) (s : State) : Outcome := .next (s.skipIf (s.getV x != s.getV y))

end Sys2Proof.Machine
end

