-- ==== Sys2Proof/Machine/Flags.lean ====
section
/-! DEFINITION. The one flag, `VF` = `V[15]` (10_state R22), and how the instructions that write it compute it
(41_load_alu R140, R148 to R152; 43_display_blitter R195). -/

namespace Sys2Proof.Machine

/-- The number of `VF` (R22). -/
def vf : Reg := 15

/-- A flag as a byte, 0 or 1 (R22). -/
def flagByte (b : Bool) : Byte := if b then 1 else 0

/-- The carry of an addition: 1 if `a + b > 255` (R148). -/
def carryFlag (a b : Byte) : Byte := flagByte (255 < a.toNat + b.toNat)

/-- The no-borrow flag of `a - b`, strict: 1 if `a > b` (R149, R151). -/
def noBorrowFlag (a b : Byte) : Byte := flagByte (b.toNat < a.toNat)

/-- The bit a right shift loses (R150). -/
def lsbFlag (a : Byte) : Byte := flagByte (a.getLsbD 0)

/-- The bit a left shift loses (R152). -/
def msbFlag (a : Byte) : Byte := flagByte (a.getLsbD 7)

/-- Writes a result and then the flag, so that with `x = 15` the flag stays (R143). -/
def State.setResultFlag (s : State) (x : Reg) (r f : Byte) : State := (s.setV x r).setV vf f

end Sys2Proof.Machine
end

