-- ==== Sys2Proof/Machine/Display.lean ====
section
/-! DEFINITION. The framebuffer and sprite XOR-blitter of 43_display_blitter: clear, draw, flush. -/

namespace Sys2Proof.Machine

/-- `FB[py][px]` (R191). -/
def Frame.pixel (f : Frame) (py : Fin 32) (px : Fin 64) : Bool := f[py.val][px.val]

/-- The framebuffer with one pixel XORed with 1. -/
def Frame.flip (f : Frame) (py : Fin 32) (px : Fin 64) : Frame := f.set py.val (f[py.val].set px.val (!f.pixel py px))

/-- All 2048 pixels 0 (R198). -/
def Frame.clear : Frame := .replicate 32 (.replicate 64 false)

/-- The framebuffer row of sprite row `r`: `(y0 + r) mod 32` (R194). -/
def spriteRow (y0 r : Nat) : Fin 32 := Fin.ofNat 32 (y0 + r)

/-- The framebuffer column of sprite column `c`: `(x0 + c) mod 64` (R193). -/
def spriteCol (x0 c : Nat) : Fin 64 := Fin.ofNat 64 (x0 + c)

/-- The sprite pixel in column `c` of a row byte, most significant bit first (R192). -/
def spriteBit (b : Byte) (c : Nat) : Bool := b.getLsbD (7 - c)

/-- A draw in progress: the framebuffer and the collision seen so far. -/
structure Blit where
  /-- The framebuffer. -/
  fb : Frame
  /-- Has a pixel gone from 1 to 0 (R195)? -/
  hit : Bool
  deriving DecidableEq, Repr

/-- One framebuffer pixel of a draw: a collision if it is 1, then it is XORed with 1 (R195, R199). -/
def blitPixel (d : Blit) (py : Fin 32) (px : Fin 64) : Blit :=
  { fb := d.fb.flip py px, hit := d.hit || d.fb.pixel py px }

/-- One row of a sprite: its 8 columns from left to right; a sprite pixel of 0 is transparent (R192, R199). -/
def blitRow (b : Byte) (x0 : Nat) (py : Fin 32) (d : Blit) : Blit :=
  (List.range 8).foldl (fun d c => if spriteBit b c then blitPixel d py (spriteCol x0 c) else d) d

/-- The rows of a sprite, top first, its bytes from `I` on (R192, R199). -/
def State.blit (s : State) (x0 y0 n : Nat) : Blit :=
  (List.range n).foldl (fun d r => blitRow (s.readByte (s.ea r)) x0 (spriteRow y0 r) d) { fb := s.FB, hit := false }

/-- The framebuffer is replaced and marked dirty (R198, R199, R203). -/
def State.setFrame (s : State) (f : Frame) : State := { s with FB := f, dirty := true }

/-- `00E0` (R198). -/
def execCls (s : State) : Outcome := .next (s.setFrame Frame.clear)

/-- `Dxyn` (R199 to R203): the coordinates and the data are those before the draw; `VF` is the collision, always written;
`dirty` is set even when `n = 0`; or the fault MemReadBounds and nothing drawn. Of R202, the collision of a second draw after a
first that lit no pixel is against R195, R196 and R199, and these are followed (log 21). -/
def execDrw (x y : Reg) (n : Nat) (s : State) : Outcome :=
  if s.rangeOk n then
    .next ((s.setFrame (s.blit (s.getV x).toNat (s.getV y).toNat n).fb).setV vf
      (flagByte (s.blit (s.getV x).toNat (s.getV y).toNat n).hit))
  else .next (s.takeFault .memReadBounds s.I.toNat)

/-- The PIXEL event of one pixel: logical coordinates, the scale, on or off (R208). -/
def State.pixelEvent (s : State) (py : Fin 32) (px : Fin 64) : Event :=
  .pixel px.val py.val (scaleOf s.params) (s.FB.pixel py px)

/-- The 2048 events of a flush: row by row from the top, left to right (R207). -/
def State.pixelEvents (s : State) : List Event :=
  (List.range 32).flatMap fun py => (List.range 64).map fun px => s.pixelEvent (Fin.ofNat 32 py) (Fin.ofNat 64 px)

/-- `Flush`: reports every pixel and clears `dirty` (R207). -/
def State.flush (s : State) : State := { s with events := s.events ++ s.pixelEvents, dirty := false }

/-- Phase 6 of a step: flush if dirty (R284). -/
def State.flushIfDirty (s : State) : State := if s.dirty then s.flush else s

end Sys2Proof.Machine
end

