-- ==== Sys2Proof/Machine/IndexMemory.lean ====
section
/-! DEFINITION. The index register and memory transfer of 42_index_memory. -/

namespace Sys2Proof.Machine

/-- `Annn` (R171). -/
def execLdI (nnn : BitVec 12) (s : State) : Outcome := .next (s.setI (zextAddr nnn))

/-- `Fx1E` (R172): 16 bits, no flag. -/
def execAddI (x : Reg) (s : State) : Outcome := .next (s.setI (s.I + zextByte (s.getV x)))

/-- `Fx29` (R173). -/
def execLdF (x : Reg) (s : State) : Outcome := .next (s.setI (glyphAddr (s.getV x)))

/-- `Fx33` (R174): three digits at `I`, `I + 1`, `I + 2`, or the fault MemWriteBounds and nothing written. -/
def execLdB (x : Reg) (s : State) : Outcome :=
  if s.rangeOk 3 then .next (s.writeBytes (s.ea 0) (bcdDigits (s.getV x)))
  else .next (s.takeFault .memWriteBounds s.I.toNat)

/-- `Fx55` (R175, R176): `V[0]`..`V[x]` to `mem[I]`..`mem[I + x]`, then `I` moves on; or the fault MemWriteBounds. -/
def execStoreRegs (x : Reg) (s : State) : Outcome :=
  if s.rangeOk (x.val + 1) then .next ((s.writeBytes (s.ea 0) (s.regsUpTo x)).setI (s.indexPast x))
  else .next (s.takeFault .memWriteBounds s.I.toNat)

/-- `Fx65` (R175, R177): `mem[I]`..`mem[I + x]` to `V[0]`..`V[x]`, then `I` moves on; or the fault MemReadBounds. -/
def execLoadRegs (x : Reg) (s : State) : Outcome :=
  if s.rangeOk (x.val + 1) then .next ((s.setRegs 0 (s.readBytes (s.ea 0) (x.val + 1))).setI (s.indexPast x))
  else .next (s.takeFault .memReadBounds s.I.toNat)

end Sys2Proof.Machine
end

