-- ==== Sys2Proof/Machine/Keypad.lean ====
section
/-! DEFINITION. The 16-key input and its debouncer of 44_keypad_debounce: the key map, press, release, the sweep and the
three key instructions. -/

namespace Sys2Proof.Machine

/-- `KEYMAP`: the key code of a symbol (R224); none for any other symbol, lower case included (D25). -/
def keyCode : Symbol → Option (Fin 16)
  | ['1'] => some 0x1
  | ['2'] => some 0x2
  | ['3'] => some 0x3
  | ['4'] => some 0xC
  | ['Q'] => some 0x4
  | ['W'] => some 0x5
  | ['E'] => some 0x6
  | ['R'] => some 0xD
  | ['A'] => some 0x7
  | ['S'] => some 0x8
  | ['D'] => some 0x9
  | ['F'] => some 0xA
  | ['Z'] => some 0x0
  | ['X'] => some 0xB
  | ['C'] => some 0xF
  | ['V'] => some 0xE
  | _ => none

/-- The transition of one key to PRESSED since `now` (R223). -/
def State.pressKey (s : State) (k : Fin 16) (now : Nat) : State :=
  { s with key := s.key.set k.val true, stamp := s.stamp.set k.val now, clock := now }

/-- The transition of one key to RELEASED; the stamp is not touched (R223, R226). -/
def State.releaseKey (s : State) (k : Fin 16) : State := { s with key := s.key.set k.val false }

/-- The result `Invalid(UnknownKeySymbol, sym)`, nothing else changed (R227). -/
def State.invalidKey (s : State) (sym : Symbol) : State := { s with result := .invalid .unknownKeySymbol sym }

/-- `press(sym)` with the clock sample `now` (R225). -/
def State.press (s : State) (sym : Symbol) (now : Nat) : State :=
  match keyCode sym with
  | some k => s.pressKey k now
  | none => s.invalidKey sym

/-- `release(sym)` (R226). -/
def State.release (s : State) (sym : Symbol) : State :=
  match keyCode sym with
  | some k => s.releaseKey k
  | none => s.invalidKey sym

/-- Has the window of a key pressed at `t` elapsed at `now`: strictly more than `DEBOUNCE_MS` (R229, R230)? With a clock
that went backwards the difference is 0 and it has not (D24; log 8). -/
def State.windowOver (s : State) (now t : Nat) : Bool := s.params.debounceMs < now - t

/-- `key[k]` after a sweep at `now`: a pressed key whose window has elapsed is released (R223, R229). -/
def State.keyAfterSweep (s : State) (now : Nat) (k : Fin 16) : Bool := s.key[k.val] && !s.windowOver now s.stamp[k.val]

/-- `Sweep`: the 16 keys, each on its own (R223, R229). -/
def State.sweep (s : State) (now : Nat) : State :=
  { s with key :=
      #v[s.keyAfterSweep now 0x0, s.keyAfterSweep now 0x1, s.keyAfterSweep now 0x2, s.keyAfterSweep now 0x3,
         s.keyAfterSweep now 0x4, s.keyAfterSweep now 0x5, s.keyAfterSweep now 0x6, s.keyAfterSweep now 0x7,
         s.keyAfterSweep now 0x8, s.keyAfterSweep now 0x9, s.keyAfterSweep now 0xA, s.keyAfterSweep now 0xB,
         s.keyAfterSweep now 0xC, s.keyAfterSweep now 0xD, s.keyAfterSweep now 0xE, s.keyAfterSweep now 0xF] }

/-- `Ex9E` (R232): a code above 15 is the fault KeyIndexRange (R235). -/
def execSkp (x : Reg) (s : State) : Outcome :=
  match s.keyAt (s.getV x) with
  | some pressed => .next (s.skipIf pressed)
  | none => .next (s.takeFault .keyIndexRange (s.getV x).toNat)

/-- `ExA1` (R233): a code above 15 is the fault KeyIndexRange (R235). -/
def execSknp (x : Reg) (s : State) : Outcome :=
  match s.keyAt (s.getV x) with
  | some pressed => .next (s.skipIf (!pressed))
  | none => .next (s.takeFault .keyIndexRange (s.getV x).toNat)

/-- `Fx0A` (R234): changes nothing, does not wait, does not read the keypad. -/
def execLdVxK (_x : Reg) (s : State) : Outcome := .next s

end Sys2Proof.Machine
end

