-- ==== Sys2Proof/Machine/LoadAlu.lean ====
section
/-! DEFINITION. Register load, arithmetic and logic of 41_load_alu. All results wrap mod 256 (R140). -/

namespace Sys2Proof.Machine

/-- `6xnn` (R141). -/
def execLdByte (x : Reg) (nn : Byte) (s : State) : Outcome := .next (s.setV x nn)

/-- `7xnn` (R142): no flag. -/
def execAddByte (x : Reg) (nn : Byte) (s : State) : Outcome := .next (s.setV x (s.getV x + nn))

/-- `8xy0` (R144). -/
def execLdReg (x y : Reg) (s : State) : Outcome := .next (s.setV x (s.getV y))

/-- `8xy1` (R145): no flag. -/
def execOrReg (x y : Reg) (s : State) : Outcome := .next (s.setV x (s.getV x ||| s.getV y))

/-- `8xy2` (R146): no flag. -/
def execAndReg (x y : Reg) (s : State) : Outcome := .next (s.setV x (s.getV x &&& s.getV y))

/-- `8xy3` (R147): no flag. -/
def execXorReg (x y : Reg) (s : State) : Outcome := .next (s.setV x (s.getV x ^^^ s.getV y))

/-- `8xy4` (R148). -/
def execAddReg (x y : Reg) (s : State) : Outcome :=
  .next (s.setResultFlag x (s.getV x + s.getV y) (carryFlag (s.getV x) (s.getV y)))

/-- `8xy5` (R149). -/
def execSub (x y : Reg) (s : State) : Outcome :=
  .next (s.setResultFlag x (s.getV x - s.getV y) (noBorrowFlag (s.getV x) (s.getV y)))

/-- `8xy6` (R150): `V[x]` is shifted in place, `y` is ignored (log 16). -/
def execShr (x _y : Reg) (s : State) : Outcome :=
  .next (s.setResultFlag x (s.getV x >>> 1) (lsbFlag (s.getV x)))

/-- `8xy7` (R151). -/
def execSubn (x y : Reg) (s : State) : Outcome :=
  .next (s.setResultFlag x (s.getV y - s.getV x) (noBorrowFlag (s.getV y) (s.getV x)))

/-- `8xyE` (R152): `V[x]` is shifted in place, `y` is ignored (log 16). -/
def execShl (x _y : Reg) (s : State) : Outcome :=
  .next (s.setResultFlag x (s.getV x <<< 1) (msbFlag (s.getV x)))

/-- `Cxnn` (R155): the draw of this step masked. -/
def execRnd (x : Reg) (nn : Byte) (s : State) : Outcome := .next (s.setV x (s.rnd &&& nn))

end Sys2Proof.Machine
end

