-- ==== Sys2Proof/Machine/Timers.lean ====
section
/-! DEFINITION. The timer countdown engine of 45_timers: the tick with its audio edges and the three timer instructions. -/

namespace Sys2Proof.Machine

/-- The delay clause of the tick: down by 1, floor at 0 (R251, R254). -/
def State.tickDelay (s : State) : State := if s.DT.toNat > 0 then { s with DT := s.DT - 1 } else s

/-- Audio-on is sent and remembered (R254, R257). -/
def State.audioOn (s : State) : State := ({ s with sounding := true }).emit (.audio true)

/-- Audio-off is sent and remembered (R254, R257). -/
def State.audioOff (s : State) : State := ({ s with sounding := false }).emit (.audio false)

/-- Audio-on, unless the host has been told already (R254). -/
def State.audioOnEdge (s : State) : State := if s.sounding then s else s.audioOn

/-- `ST <- ST - 1`, and audio-off when that makes it 0 (R254). -/
def State.countSound (s : State) : State :=
  if s.ST - 1 = 0 then (s.setST (s.ST - 1)).audioOff else s.setST (s.ST - 1)

/-- The sound clause of the tick (R254), all six cases of R256. -/
def State.tickSound (s : State) : State :=
  if s.ST.toNat > 0 then s.audioOnEdge.countSound
  else if s.sounding then s.audioOff
  else s

/-- `Tick`: the delay clause, then the sound clause (R254). -/
def State.tick (s : State) : State := s.tickDelay.tickSound

/-- `Fx07` (R259): the value before this step's tick. -/
def execLdVxDT (x : Reg) (s : State) : Outcome := .next (s.setV x s.DT)

/-- `Fx15` (R260). -/
def execLdDTVx (x : Reg) (s : State) : Outcome := .next (s.setDT (s.getV x))

/-- `Fx18` (R261): no event here, the tick finds the edges. -/
def execLdSTVx (x : Reg) (s : State) : Outcome := .next (s.setST (s.getV x))

end Sys2Proof.Machine
end

