-- ==== Sys2Proof/Machine/Scheduler.lean ====
section
/-! DEFINITION. The cycle scheduler of 46_scheduler_and_host R284: the `step` command, phase by phase. -/

namespace Sys2Proof.Machine

/-- A command begins: its result is `Ok` unless its rule says otherwise, and it has emitted nothing (R281). -/
def State.begin (s : State) : State := { s with result := .ok, events := [] }

/-- A RUNNING step takes its inputs: the clock is sampled once and the draw is given (R156, R222). -/
def State.takeInputs (s : State) (now : Nat) (rnd : Byte) : State :=
  { s with clock := now, rnd := rnd, draws := s.draws + 1 }

/-- What is left of a step after the instruction: the tick and the flush (R284 phases 5 and 6), or nothing when the
instruction raised a fault (R326). -/
def State.finish (s : State) : State := if s.faulted then s else s.tick.flushIfDirty

/-- The report of an unrecognized word fetched at `a`: `DIAG`, nothing else changes (R286, R322). -/
def State.reportUnrecognized (s : State) (w : Word) (a : Nat) : State := s.emit (.diag .unrecognizedOpcode w a)

/-- Phases 3 to 6 (R284): `PC` is advanced, the word fetched at the old `PC` is executed, then the step is finished. -/
def State.runWord (s : State) (w : Word) : Outcome :=
  match decode w with
  | .ok i =>
    match exec i s.advancePC with
    | .next t => .next t.finish
    | .fault r => .fault r
    | .refused r => .refused r
  | .error _ => .next ((s.advancePC.reportUnrecognized w s.PC.toNat).finish)

/-- Phase 2 on (R284, R285): a fetch beyond memory is the fault FetchBounds, with `PC` not advanced. -/
def State.fetchAndRun (s : State) : Outcome :=
  if s.canFetch then s.runWord s.fetchWord else .next (s.takeFault .fetchBounds s.PC.toNat)

/-- `step(now, rnd)` (R284, R287), of a command already begun: while STOPPED nothing happens, not even the inputs are
taken; while RUNNING the sweep comes first. -/
def State.stepCommand (s : State) (now : Nat) (rnd : Byte) : Outcome :=
  if s.running then ((s.takeInputs now rnd).sweep now).fetchAndRun else .next { s with result := .stopped }

end Sys2Proof.Machine
end

