-- ==== Sys2Proof/Machine/Commands.lean ====
section
/-! DEFINITION. The host's commands (46_scheduler_and_host R280 to R290) and which of them comes next. -/

namespace Sys2Proof.Machine

/-- `start` (R283). -/
def State.start (s : State) : State := { s with running := true }

/-- `stop` (R283). -/
def State.stop (s : State) : State := { s with running := false }

/-- `reset` (R288): every component takes its value of R40. The construction arguments are the machine's for life; the
commands still to come, the host's clock and the count of the free values are no state of the machine and stay. -/
def State.resetCommand (s : State) : State :=
  { State.construct s.params with pending := s.pending, clock := s.clock, draws := s.draws, rnd := s.rnd }

/-- `loadProgram(bytes)` (R290): writes them from 0x200 on, or the fault LoadBounds and nothing written. -/
def State.loadProgram (s : State) (bytes : List Byte) : State :=
  if bytes.length ≤ Config.maxProgLen then s.writeBytes Config.progBase bytes
  else s.takeFault .loadBounds bytes.length

/-- One command, from beginning to end (R280, R281). -/
def State.command (s : State) : Command → Outcome
  | .reset => .next s.begin.resetCommand
  | .start => .next s.begin.start
  | .stop => .next s.begin.stop
  | .step now rnd => s.begin.stepCommand now rnd
  | .press sym now => .next (s.begin.press sym now)
  | .release sym => .next (s.begin.release sym)
  | .loadProgram bytes => .next (s.begin.loadProgram bytes)

/-- The `step` of a host that has queued nothing: its clock sample is not below the last one (R222) and otherwise free,
its draw is free (R156; logs 3, 4). -/
def State.freeStep (s : State) : Command := .step (s.clock + Config.clockGap s.draws) (Config.freeDraw s.draws)

/-- The next command: the oldest one queued, else a free `step` (log 2). -/
def State.nextCommand (s : State) : Command := s.pending.headD s.freeStep

/-- The state with that command taken from the queue. -/
def State.dequeue (s : State) : State := { s with pending := s.pending.tail }

/-- Where the next fetch of the state can be put: `PC`, or the entry point when `PC` is beyond memory, where no
instruction can be fetched (R285). -/
def State.fetchPoint (s : State) : Word := if s.canFetch then s.PC else 0x200

/-- The state with a word stored where the next step fetches, the machine RUNNING and no command before that step. -/
def State.placeWord (s : State) (w : Word) : State :=
  ({ s with PC := s.fetchPoint, running := true, pending := [] }).writeBytes s.fetchPoint.toNat (bytesOfWord w)

end Sys2Proof.Machine
end

