-- ==== Sys2Proof/Machine/Step.lean ====
section
/-! DEFINITION. The step of the machine: one command of the host, from beginning to end (46_scheduler_and_host R280). -/

namespace Sys2Proof.Machine

/-- Takes the host's next command and carries it out. -/
def step (s : State) : Host.Outcome State Fault Refusal := s.dequeue.command s.nextCommand

/-- The state with the instruction whose bits are `w` (numbered as spec/opcode_table.json numbers them, `nbits` of them)
stored where `step` fetches next (log 11). -/
def State.withFetchWord (s : State) (nbits w : Nat) : State := s.placeWord (tableWord nbits w)

end Sys2Proof.Machine
end

