-- ==== Sys2Proof/Safety.lean ====
section
/-! DEFINITION. What counts as a safe run, in the terms the claims use: the invariants the spec states of the machine
between commands, the host's duty about its clock, and the states some run reaches. -/

namespace Sys2Proof.Machine

/-- The memory is in canonical form and lists no address beyond 4095 (20_memory R60; log 7). -/
abbrev State.memOk (s : State) : Prop := Memory.wf s.params s.mem

/-- Between commands the framebuffer has been flushed: `dirty` is false (43_display_blitter R210). -/
abbrev State.clean (s : State) : Prop := s.dirty = false

/-- Between commands `sounding = (ST > 0)` (45_timers R253 (b)). -/
abbrev State.soundOk (s : State) : Prop := s.sounding = decide (s.ST.toNat > 0)

/-- `PC` is at most `0x10FE`, the largest value a step can leave in it (10_state R24). -/
abbrev State.pcOk (s : State) : Prop := s.PC.toNat ≤ 0x10FE

/-- Every stack entry is an address a fetch can leave behind: at most 4096 (10_state R25, 46_scheduler_and_host R285). -/
abbrev State.stackOk (s : State) : Prop := ∀ j : Fin 16, s.stack[j.val].toNat ≤ 0x1000

/-- The invariants of the machine between commands, in every run. -/
structure State.Inv (s : State) : Prop where
  /-- Canonical memory. -/
  mem : s.memOk
  /-- `dirty` is false. -/
  clean : s.clean
  /-- `sounding = (ST > 0)`. -/
  sound : s.soundOk
  /-- `PC ≤ 0x10FE`. -/
  pc : s.pcOk
  /-- Stack entries are at most 4096. -/
  stack : s.stackOk

/-- The clock samples of the commands to come do not fall below `t` nor below one another: the host's duty (44_keypad_debounce
R222, 46_scheduler_and_host R296). -/
def samplesRise : Nat → List Command → Prop
  | _, [] => True
  | t, .step now _ :: cs => t ≤ now ∧ samplesRise now cs
  | t, .press _ now :: cs => t ≤ now ∧ samplesRise now cs
  | t, .reset :: cs => samplesRise t cs
  | t, .start :: cs => samplesRise t cs
  | t, .stop :: cs => samplesRise t cs
  | t, .release _ :: cs => samplesRise t cs
  | t, .loadProgram _ :: cs => samplesRise t cs

/-- The host keeps its duty about the clock, and no pressed key's stamp lies in the future. -/
structure State.ClockOk (s : State) : Prop where
  /-- The samples to come rise from the last one taken. -/
  rise : samplesRise s.clock s.pending
  /-- A stamp is a sample taken earlier. -/
  stamps : ∀ k : Fin 16, s.key[k.val] = true → s.stamp[k.val] ≤ s.clock

/-- Every byte of memory reads in `t` as in `s`. -/
abbrev State.sameMemory (s t : State) : Prop := ∀ a : Nat, t.readByte a = s.readByte a

/-- The state in which a RUNNING `step(now, rnd)` fetches: the command begun, its inputs taken, the keys swept
(46_scheduler_and_host R284 phase 1). -/
def State.atFetch (s : State) (now : Nat) (rnd : Byte) : State := (s.dequeue.begin.takeInputs now rnd).sweep now

/-- The word at `PC` in memory (20_memory R62). -/
def State.wordAtPC (s : State) : Word := wordOfBytes (s.readByte s.PC.toNat) (s.readByte (s.PC.toNat + 1))

/-- Some sprite pixel is 1 and lands on a framebuffer position, for a sprite of `n` rows at `I` drawn at `(x0, y0)`
(43_display_blitter R192 to R194, R196). -/
def State.spriteOn (s : State) (x0 y0 n : Nat) (py : Fin 32) (px : Fin 64) : Prop :=
  ∃ r c : Nat, r < n ∧ c < 8 ∧ (y0 + r) % 32 = py.val ∧ (x0 + c) % 64 = px.val ∧
    (s.readByte (s.ea r)).getLsbD (7 - c) = true

/-- The six instructions that write `VF` as a side effect (10_state R22). -/
def writesFlag : Instr → Bool
  | .addReg _ _ | .sub _ _ | .shr _ _ | .subn _ _ | .shl _ _ | .drw _ _ _ => true
  | .cls | .ret | .jp _ | .call _ | .seByte _ _ | .sneByte _ _ | .seReg _ _ | .ldByte _ _ | .addByte _ _
  | .ldReg _ _ | .orReg _ _ | .andReg _ _ | .xorReg _ _ | .sneReg _ _ | .ldI _ | .jpV0 _ | .rnd _ _ | .skp _ | .sknp _
  | .ldVxDT _ | .ldVxK _ | .ldDTVx _ | .ldSTVx _ | .addI _ | .ldF _ | .ldB _ | .storeRegs _ | .loadRegs _ => false

/-- The instructions that write general registers as data, when `VF` is one they name (R22, 41_load_alu R141 to R147,
R155, 42_index_memory R177, 45_timers R259). -/
def namesVf : Instr → Bool
  | .ldByte x _ | .addByte x _ | .ldReg x _ | .orReg x _ | .andReg x _ | .xorReg x _ | .rnd x _ | .ldVxDT x
  | .loadRegs x => x = vf
  | .addReg _ _ | .sub _ _ | .shr _ _ | .subn _ _ | .shl _ _ | .drw _ _ _
  | .cls | .ret | .jp _ | .call _ | .seByte _ _ | .sneByte _ _ | .seReg _ _ | .sneReg _ _ | .ldI _ | .jpV0 _ | .skp _
  | .sknp _ | .ldVxK _ | .ldDTVx _ | .ldSTVx _ | .addI _ | .ldF _ | .ldB _ | .storeRegs _ => false

/-- When an instruction raises a fault, and which one with which `info` (60_exceptions R321). -/
def faultOf (i : Instr) (s : State) : Option (Cause × Nat) :=
  match i with
  | .call _ => if s.SP.val = 16 then some (.stackOverflow, s.PC.toNat) else none
  | .ret => if s.SP.val = 0 then some (.stackUnderflow, s.PC.toNat) else none
  | .ldB _ => if 4095 < s.I.toNat + 2 then some (.memWriteBounds, s.I.toNat) else none
  | .storeRegs x => if 4095 < s.I.toNat + x.val then some (.memWriteBounds, s.I.toNat) else none
  | .loadRegs x => if 4095 < s.I.toNat + x.val then some (.memReadBounds, s.I.toNat) else none
  | .drw _ _ n => if 0 < n ∧ 4095 < s.I.toNat + n - 1 then some (.memReadBounds, s.I.toNat) else none
  | .skp x | .sknp x => if 15 < (s.getV x).toNat then some (.keyIndexRange, (s.getV x).toNat) else none
  | .addReg _ _ | .sub _ _ | .shr _ _ | .subn _ _ | .shl _ _ | .cls | .jp _ | .seByte _ _ | .sneByte _ _ | .seReg _ _
  | .ldByte _ _ | .addByte _ _ | .ldReg _ _ | .orReg _ _ | .andReg _ _ | .xorReg _ _ | .sneReg _ _ | .ldI _ | .jpV0 _
  | .rnd _ _ | .ldVxDT _ | .ldVxK _ | .ldDTVx _ | .ldSTVx _ | .addI _ | .ldF _ => none

/-- The states of the runs of a machine: constructed with any arguments, the host having issued any commands, and then
stepped. -/
inductive Reachable : State → Prop where
  /-- A new machine and what its host will do with it. -/
  | construct (p : Params) (cs : List Command) : Reachable { State.construct p with pending := cs }
  /-- One command later. -/
  | step {s t : State} : Reachable s → Machine.step s = .next t → Reachable t

end Sys2Proof.Machine
end

