-- ==== Sys2Proof/Certificates/Slice0/Obligations.lean ====
section
/-! DEFINITION. The statements for the provers, each from the numbered rules of spec/ its docstring names. In every
statement about an instruction `PC` holds the post-increment value (40_control_flow R128), and a frame has two parts: an
equation of states that names the components written, and what every byte of memory reads as. -/

open Sys2Proof Sys2Proof.Machine

/-! ### Encoding (30_encoding) -/

/-- R91, R92, R95: decoding the word of a well-formed instruction gives it back, whatever its operands. -/
def Obligations.DecodeOfEncode : Prop := ∀ i : Instr, i.wellFormed = true → decode (encode i) = .ok i

/-- R91, R92, R95: a word that decodes is the word of what it decodes to, which is well-formed. -/
def Obligations.EncodeOfDecode : Prop :=
  ∀ (w : Word) (i : Instr), decode w = .ok i → i.wellFormed = true ∧ encode i = w

/-- R94, R95 (with D18): the decoder gives an instruction whose row the word matches, or the word matches no row. -/
def Obligations.DecoderRecognizesExactlyTheTable : Prop :=
  ∀ w : Word, (∃ i, decode w = .ok i ∧ rowOf i ∈ opcodeTable ∧ (rowOf i).holds w = true) ∨
    (decode w = .error (.unrecognizedOpcode w) ∧ ∀ r ∈ opcodeTable, r.holds w = false)

/-- R96: the unrecognized words, family by family. -/
def Obligations.UnrecognizedWordsByFamily : Prop :=
  ∀ w : Word, decode w = .error (.unrecognizedOpcode w) ↔
    (w.toNat / 4096 = 0x0 ∧ w.toNat ≠ 0x00E0 ∧ w.toNat ≠ 0x00EE) ∨
    ((w.toNat / 4096 = 0x5 ∨ w.toNat / 4096 = 0x9) ∧ w.toNat % 16 ≠ 0) ∨
    (w.toNat / 4096 = 0x8 ∧ w.toNat % 16 ∈ [0x8, 0x9, 0xA, 0xB, 0xC, 0xD, 0xF]) ∨
    (w.toNat / 4096 = 0xE ∧ w.toNat % 256 ∉ [0x9E, 0xA1]) ∨
    (w.toNat / 4096 = 0xF ∧ w.toNat % 256 ∉ [0x07, 0x0A, 0x15, 0x18, 0x1E, 0x29, 0x33, 0x55, 0x65])

/-- 95_test_vectors section 2 and R95: words written out from the encodings decode to what they stand for. -/
def Obligations.WordsOfTheSpecDecode : Prop :=
  decode 0x00E0 = .ok .cls ∧ decode 0x00EE = .ok .ret ∧ decode 0x1ABC = .ok (.jp 0xABC) ∧
  decode 0x5120 = .ok (.seReg 1 2) ∧ decode 0x812E = .ok (.shl 1 2) ∧ decode 0xE1A1 = .ok (.sknp 1) ∧
  decode 0xF10A = .ok (.ldVxK 1) ∧ decode 0xD12F = .ok (.drw 1 2 15) ∧ decode 0xF255 = .ok (.storeRegs 2) ∧
  decode 0x5121 = .error (.unrecognizedOpcode 0x5121) ∧ decode 0x0000 = .error (.unrecognizedOpcode 0x0000)

/-- R62: the fetched word has the byte at `PC` in bits 15..8 and the byte at `PC + 1` in bits 7..0. -/
def Obligations.FetchIsBigEndian : Prop :=
  ∀ s : State, s.fetchWord.extractLsb' 8 8 = s.readByte s.PC.toNat ∧
    s.fetchWord.extractLsb' 0 8 = s.readByte (s.PC.toNat + 1)

/-! ### Control flow (40_control_flow) -/

/-- R120: `1nnn` loads `PC` and changes nothing else. -/
def Obligations.JumpLoadsItsAddress : Prop :=
  ∀ (nnn : BitVec 12) (s : State), ∃ t, exec (.jp nnn) s = .next t ∧ t.PC.toNat = nnn.toNat ∧
    t = { s with PC := t.PC } ∧ s.sameMemory t

/-- R121: with room on the stack `2nnn` pushes the post-increment `PC` and jumps; with `SP = 16` it raises StackOverflow
and changes nothing else. -/
def Obligations.CallPushesAndJumps : Prop :=
  ∀ (nnn : BitVec 12) (s : State),
    (s.SP.val < 16 → ∃ t, exec (.call nnn) s = .next t ∧ t.PC.toNat = nnn.toNat ∧ t.SP.val = s.SP.val + 1 ∧
      (∀ j : Fin 16, t.stack[j.val] = if j.val = s.SP.val then s.PC else s.stack[j.val]) ∧
      t = { s with PC := t.PC, SP := t.SP, stack := t.stack } ∧ s.sameMemory t) ∧
    (s.SP.val = 16 → exec (.call nnn) s = .next { s with result := .fault .stackOverflow s.PC.toNat })

/-- R122: with an entry on the stack `00EE` pops it into `PC`; with `SP = 0` it raises StackUnderflow and changes nothing
else. -/
def Obligations.ReturnPopsIntoPC : Prop :=
  ∀ s : State,
    (0 < s.SP.val → ∃ t, exec .ret s = .next t ∧ t.SP.val + 1 = s.SP.val ∧
      (∀ j : Fin 16, j.val = t.SP.val → t.PC = s.stack[j.val]) ∧
      t = { s with PC := t.PC, SP := t.SP } ∧ s.sameMemory t) ∧
    (s.SP.val = 0 → exec .ret s = .next { s with result := .fault .stackUnderflow s.PC.toNat })

/-- R121, R122, R25: a return right after a call, wherever the call went, goes to the instruction after the call. -/
def Obligations.ReturnGoesAfterItsCall : Prop :=
  ∀ (nnn : BitVec 12) (s : State), s.SP.val < 16 → ∃ t, exec (.call nnn) s = .next t ∧
    ∀ pc : Word, ∃ u, exec .ret { t with PC := pc } = .next u ∧ u.PC = s.PC ∧ u.SP = s.SP

/-- R123 to R126: each skip adds 2 to the post-increment `PC` exactly when its condition holds, and changes nothing else. -/
def Obligations.SkipsTestTheirOperands : Prop :=
  ∀ (x y : Reg) (nn : Byte) (s : State),
    exec (.seByte x nn) s = .next { s with PC := if s.getV x = nn then s.PC + 2 else s.PC } ∧
    exec (.sneByte x nn) s = .next { s with PC := if s.getV x = nn then s.PC else s.PC + 2 } ∧
    exec (.seReg x y) s = .next { s with PC := if s.getV x = s.getV y then s.PC + 2 else s.PC } ∧
    exec (.sneReg x y) s = .next { s with PC := if s.getV x = s.getV y then s.PC else s.PC + 2 }

/-- R127 with D33: `Bnnn` jumps to `nnn + V[0]`, not reduced to 12 bits. -/
def Obligations.JumpWithOffsetAddsV0 : Prop :=
  ∀ (nnn : BitVec 12) (s : State), ∃ t, exec (.jpV0 nnn) s = .next t ∧
    t.PC.toNat = nnn.toNat + (s.getV 0).toNat ∧ t = { s with PC := t.PC } ∧ s.sameMemory t

/-! ### Load, arithmetic and logic (41_load_alu) -/

/-- R141, R142: `6xnn` loads and `7xnn` adds mod 256; no other register, `VF` included, and nothing else changes. -/
def Obligations.LoadAndAddByte : Prop :=
  ∀ (x : Reg) (nn : Byte) (s : State),
    (∃ t, exec (.ldByte x nn) s = .next t ∧ t.getV x = nn ∧ (∀ r, r ≠ x → t.getV r = s.getV r) ∧
      t = { s with V := t.V } ∧ s.sameMemory t) ∧
    (∃ t, exec (.addByte x nn) s = .next t ∧ (t.getV x).toNat = ((s.getV x).toNat + nn.toNat) % 256 ∧
      (∀ r, r ≠ x → t.getV r = s.getV r) ∧ t = { s with V := t.V } ∧ s.sameMemory t)

/-- R144 to R147: copy, OR, AND, XOR; no flag, and nothing but `V[x]` changes. -/
def Obligations.CopyAndLogicWriteOnlyVx : Prop :=
  ∀ (x y : Reg) (s : State),
    (∃ t, exec (.ldReg x y) s = .next t ∧ t.getV x = s.getV y ∧ (∀ r, r ≠ x → t.getV r = s.getV r) ∧
      t = { s with V := t.V } ∧ s.sameMemory t) ∧
    (∃ t, exec (.orReg x y) s = .next t ∧ t.getV x = s.getV x ||| s.getV y ∧ (∀ r, r ≠ x → t.getV r = s.getV r) ∧
      t = { s with V := t.V } ∧ s.sameMemory t) ∧
    (∃ t, exec (.andReg x y) s = .next t ∧ t.getV x = s.getV x &&& s.getV y ∧ (∀ r, r ≠ x → t.getV r = s.getV r) ∧
      t = { s with V := t.V } ∧ s.sameMemory t) ∧
    (∃ t, exec (.xorReg x y) s = .next t ∧ t.getV x = s.getV x ^^^ s.getV y ∧ (∀ r, r ≠ x → t.getV r = s.getV r) ∧
      t = { s with V := t.V } ∧ s.sameMemory t)

/-- R148, with D13 for `x = 15`: `8xy4` writes the sum mod 256 and then the carry into `VF`, which stays when `x = 15`. -/
def Obligations.AddWritesSumThenCarry : Prop :=
  ∀ (x y : Reg) (s : State), ∃ t, exec (.addReg x y) s = .next t ∧
    t.getV 15 = (if 255 < (s.getV x).toNat + (s.getV y).toNat then 1 else 0) ∧
    (x ≠ 15 → (t.getV x).toNat = ((s.getV x).toNat + (s.getV y).toNat) % 256) ∧
    (∀ r, r ≠ x → r ≠ 15 → t.getV r = s.getV r) ∧ t = { s with V := t.V } ∧ s.sameMemory t

/-- R149, R151, with D13 for `x = 15`: `8xy5` and `8xy7` write the difference mod 256 and then the strict no-borrow flag. -/
def Obligations.SubtractionsWriteStrictNoBorrow : Prop :=
  ∀ (x y : Reg) (s : State),
    (∃ t, exec (.sub x y) s = .next t ∧ t.getV 15 = (if (s.getV y).toNat < (s.getV x).toNat then 1 else 0) ∧
      (x ≠ 15 → (t.getV x).toNat = (256 + (s.getV x).toNat - (s.getV y).toNat) % 256) ∧
      (∀ r, r ≠ x → r ≠ 15 → t.getV r = s.getV r) ∧ t = { s with V := t.V } ∧ s.sameMemory t) ∧
    (∃ t, exec (.subn x y) s = .next t ∧ t.getV 15 = (if (s.getV x).toNat < (s.getV y).toNat then 1 else 0) ∧
      (x ≠ 15 → (t.getV x).toNat = (256 + (s.getV y).toNat - (s.getV x).toNat) % 256) ∧
      (∀ r, r ≠ x → r ≠ 15 → t.getV r = s.getV r) ∧ t = { s with V := t.V } ∧ s.sameMemory t)

/-- R150, R152 and R97, with D13 and D14: `8xy6` and `8xyE` shift `V[x]` by one, whatever `y`, and then write the lost bit
into `VF`. -/
def Obligations.ShiftsWriteTheLostBit : Prop :=
  ∀ (x y : Reg) (s : State),
    (∃ t, exec (.shr x y) s = .next t ∧ (t.getV 15).toNat = (s.getV x).toNat % 2 ∧
      (x ≠ 15 → (t.getV x).toNat = (s.getV x).toNat / 2) ∧
      (∀ r, r ≠ x → r ≠ 15 → t.getV r = s.getV r) ∧ t = { s with V := t.V } ∧ s.sameMemory t) ∧
    (∃ t, exec (.shl x y) s = .next t ∧ (t.getV 15).toNat = (s.getV x).toNat / 128 ∧
      (x ≠ 15 → (t.getV x).toNat = 2 * (s.getV x).toNat % 256) ∧
      (∀ r, r ≠ x → r ≠ 15 → t.getV r = s.getV r) ∧ t = { s with V := t.V } ∧ s.sameMemory t)

/-- R155: `Cxnn` writes the step's draw, whatever it is, masked by `nn`. -/
def Obligations.RandomIsTheMaskedDraw : Prop :=
  ∀ (x : Reg) (nn : Byte) (s : State), ∃ t, exec (.rnd x nn) s = .next t ∧ t.getV x = s.rnd &&& nn ∧
    (∀ b, nn.getLsbD b = false → (t.getV x).getLsbD b = false) ∧ (∀ r, r ≠ x → t.getV r = s.getV r) ∧
    t = { s with V := t.V } ∧ s.sameMemory t

/-- R22: an instruction that changes `VF` is one of the six that write it as a flag, and then it ends as 0 or 1, or one
that names `VF` as a destination. -/
def Obligations.VfChangesOnlyAsFlagOrByName : Prop :=
  ∀ (i : Instr) (s t : State), exec i s = .next t → t.getV vf ≠ s.getV vf →
    (writesFlag i = true ∧ (t.getV vf = 0 ∨ t.getV vf = 1)) ∨ namesVf i = true

/-! ### Index and memory (42_index_memory) -/

/-- R171: `Annn` loads `I` and changes nothing else. -/
def Obligations.LoadIndexAddress : Prop :=
  ∀ (nnn : BitVec 12) (s : State), ∃ t, exec (.ldI nnn) s = .next t ∧ t.I.toNat = nnn.toNat ∧
    t = { s with I := t.I } ∧ s.sameMemory t

/-- R172, R173, with D17 and D34: `Fx1E` adds to `I` mod 2^16 without a flag, `Fx29` points `I` at a glyph of the whole
byte. -/
def Obligations.IndexArithmetic : Prop :=
  ∀ (x : Reg) (s : State),
    (∃ t, exec (.addI x) s = .next t ∧ t.I.toNat = (s.I.toNat + (s.getV x).toNat) % 65536 ∧
      t = { s with I := t.I } ∧ s.sameMemory t) ∧
    (∃ t, exec (.ldF x) s = .next t ∧ t.I.toNat = (s.getV x).toNat * 5 + 0x50 ∧
      t = { s with I := t.I } ∧ s.sameMemory t)

/-- R174, with D16 for the order of the digits and D7: `Fx33` stores hundreds, tens and ones at `I`, `I + 1`, `I + 2` and
changes nothing else; above `I = 4093` it raises MemWriteBounds and writes nothing. -/
def Obligations.StoreDecimalDigits : Prop :=
  ∀ (x : Reg) (s : State),
    (s.I.toNat ≤ 4093 → ∃ t, exec (.ldB x) s = .next t ∧
      (t.readByte (s.ea 0)).toNat = (s.getV x).toNat / 100 ∧
      (t.readByte (s.ea 1)).toNat = (s.getV x).toNat / 10 % 10 ∧
      (t.readByte (s.ea 2)).toNat = (s.getV x).toNat % 10 ∧
      (∀ a, a < s.ea 0 ∨ s.ea 0 + 3 ≤ a → t.readByte a = s.readByte a) ∧ t = { s with mem := t.mem }) ∧
    (4093 < s.I.toNat → exec (.ldB x) s = .next { s with result := .fault .memWriteBounds s.I.toNat })

/-- R175, R176, with D7: `Fx55` stores `V[0]`..`V[x]` from `I` on, advances `I` by `x + 1` and changes nothing else; when
the range leaves memory it raises MemWriteBounds and writes nothing. -/
def Obligations.StoreRegistersFromIndex : Prop :=
  ∀ (x : Reg) (s : State),
    (s.I.toNat + x.val ≤ 4095 → ∃ t, exec (.storeRegs x) s = .next t ∧
      (∀ r : Reg, r ≤ x → t.readByte (s.ea r.val) = s.getV r) ∧
      (∀ a, a < s.ea 0 ∨ s.ea 0 + (x.val + 1) ≤ a → t.readByte a = s.readByte a) ∧
      t.I.toNat = s.I.toNat + x.val + 1 ∧ t = { s with mem := t.mem, I := t.I }) ∧
    (4095 < s.I.toNat + x.val → exec (.storeRegs x) s = .next { s with result := .fault .memWriteBounds s.I.toNat })

/-- R175, R177, with D6 and D7: `Fx65` loads `V[0]`..`V[x]` from `I` on, advances `I` by `x + 1` and changes nothing else;
when the range leaves memory it raises MemReadBounds and loads nothing. -/
def Obligations.LoadRegistersFromIndex : Prop :=
  ∀ (x : Reg) (s : State),
    (s.I.toNat + x.val ≤ 4095 → ∃ t, exec (.loadRegs x) s = .next t ∧
      (∀ r : Reg, t.getV r = if r ≤ x then s.readByte (s.ea r.val) else s.getV r) ∧
      t.I.toNat = s.I.toNat + x.val + 1 ∧ t = { s with V := t.V, I := t.I } ∧ s.sameMemory t) ∧
    (4095 < s.I.toNat + x.val → exec (.loadRegs x) s = .next { s with result := .fault .memReadBounds s.I.toNat })

/-- R70, R176, R177: registers stored by `Fx55` are what `Fx65` from the same `I` loads, whatever the registers held in
between. -/
def Obligations.StoredRegistersLoadBack : Prop :=
  ∀ (x : Reg) (s : State), s.I.toNat + x.val ≤ 4095 → ∃ t, exec (.storeRegs x) s = .next t ∧
    ∀ v : Vector Byte 16, ∃ u, exec (.loadRegs x) { t with V := v, I := s.I } = .next u ∧
      ∀ r : Reg, r ≤ x → u.getV r = s.getV r

/-- 20_memory R60 and log 7: two memories in canonical form that read the same at every address of the memory are equal.
The canonical form is the model's (log 7). -/
def Obligations.CanonicalMemoriesAreEqual : Prop :=
  ∀ (p : Params) (m n : Memory), Memory.wf p m → Memory.wf p n →
    (∀ a, a ≤ 4095 → Memory.read p m a = Memory.read p n a) → m = n

/-! ### Display (43_display_blitter) -/

/-- R198: `00E0` zeroes every pixel and sets `dirty`, and changes nothing else, `VF` included. -/
def Obligations.ClearZeroesTheFramebuffer : Prop :=
  ∀ s : State, ∃ t, exec .cls s = .next t ∧ (∀ py px, t.FB.pixel py px = false) ∧ t.dirty = true ∧
    t = { s with FB := t.FB, dirty := t.dirty } ∧ s.sameMemory t

/-- R196, R199, R203, with D11, D13: a draw whose data lie in memory turns every pixel by XOR with the sprite, writes 1 into
`VF` exactly when some pixel of the framebuffer and of the sprite were both 1, and 0 otherwise, sets `dirty`, and changes
nothing else. -/
def Obligations.DrawXorsTheSprite : Prop :=
  ∀ (x y : Reg) (n : Nat) (s : State), n ≤ 15 → (n = 0 ∨ s.I.toNat + n - 1 ≤ 4095) →
    ∃ t, exec (.drw x y n) s = .next t ∧
      (∀ py px, t.FB.pixel py px = true ↔
        ¬ (s.FB.pixel py px = true ↔ s.spriteOn (s.getV x).toNat (s.getV y).toNat n py px)) ∧
      (t.getV 15 = 0 ∨ t.getV 15 = 1) ∧
      (t.getV 15 = 1 ↔ ∃ py px, s.FB.pixel py px = true ∧ s.spriteOn (s.getV x).toNat (s.getV y).toNat n py px) ∧
      t.dirty = true ∧ (∀ r, r ≠ 15 → t.getV r = s.getV r) ∧
      t = { s with FB := t.FB, dirty := t.dirty, V := t.V } ∧ s.sameMemory t

/-- R199, R201, R203, with D6, D7, D12: `Dxy0` draws nothing whatever `I` is, clears `VF` and sets `dirty`; a draw whose
data leave memory raises MemReadBounds and changes nothing else. -/
def Obligations.DrawOfNoRowsAndBeyondMemory : Prop :=
  ∀ (x y : Reg) (s : State),
    (∃ t, exec (.drw x y 0) s = .next t ∧ t.getV 15 = 0 ∧ (∀ r, r ≠ 15 → t.getV r = s.getV r) ∧
      t = { s with V := t.V, dirty := true } ∧ s.sameMemory t) ∧
    (∀ n, 0 < n → 4095 < s.I.toNat + n - 1 →
      exec (.drw x y n) s = .next { s with result := .fault .memReadBounds s.I.toNat })

/-- R195, R196, R199, R202: drawing the same sprite data at the same position twice in a row restores the framebuffer, and
the second draw reports a collision exactly when some pixel of the sprite fell on a pixel that was 0 before the first. On a
clear framebuffer, where the source's example of R202 starts, the first draw reports none, and the second reports one exactly
when the sprite has at least one pixel set. On a framebuffer where every set pixel of the sprite was already 1, R195 and R199
give the second draw no collision, and R202's remark does not hold (log 21). The position is the same when the coordinate
registers hold the same values at both draws. -/
def Obligations.DrawingTwiceRestoresTheFramebuffer : Prop :=
  ∀ (x y : Reg) (n : Nat) (s t : State), n ≤ 15 → (n = 0 ∨ s.I.toNat + n - 1 ≤ 4095) →
    exec (.drw x y n) s = .next t → t.getV x = s.getV x → t.getV y = s.getV y →
    ∃ u, exec (.drw x y n) t = .next u ∧ u.FB = s.FB ∧
      (u.getV 15 = 1 ↔ ∃ py px, s.FB.pixel py px = false ∧ s.spriteOn (s.getV x).toNat (s.getV y).toNat n py px) ∧
      ((∀ py px, s.FB.pixel py px = false) → t.getV 15 = 0 ∧
        (u.getV 15 = 1 ↔ ∃ r c : Nat, r < n ∧ c < 8 ∧ (s.readByte (s.ea r)).getLsbD (7 - c) = true))

/-- R207, R208, with D22 for the order: a flush of a dirty framebuffer appends 2048 PIXEL events, row by row from the top
and left to right, each with the pixel's state and the scale, and clears `dirty`; a clean one is not reported. -/
def Obligations.FlushReportsEveryPixelOnce : Prop :=
  ∀ s : State,
    (s.dirty = true → ∃ es : List Event, s.flushIfDirty = { s with events := s.events ++ es, dirty := false } ∧
      es.length = 2048 ∧ ∀ (py : Fin 32) (px : Fin 64),
        es[64 * py.val + px.val]? = some (.pixel px.val py.val (scaleOf s.params) (s.FB.pixel py px))) ∧
    (s.dirty = false → s.flushIfDirty = s)

/-! ### Keypad (44_keypad_debounce) -/

/-- R225, R226, R227: `press` and `release` of a symbol of the key map set and clear its key alone, `press` stamping it; of
any other symbol they answer Invalid and change no state. That `press` also sets `clock`, and that the answers stand in
`result` and `events`, is the model's choice (logs 3, 5). -/
def Obligations.PressAndReleaseActOnOneKey : Prop :=
  ∀ (s : State) (sym : Symbol) (now : Nat),
    (∀ k, keyCode sym = some k →
      (∃ t, s.command (.press sym now) = .next t ∧
        (∀ j : Fin 16, t.key[j.val] = if j = k then true else s.key[j.val]) ∧
        (∀ j : Fin 16, t.stamp[j.val] = if j = k then now else s.stamp[j.val]) ∧
        t = { s with key := t.key, stamp := t.stamp, clock := now, result := .ok, events := [] }) ∧
      (∃ t, s.command (.release sym) = .next t ∧
        (∀ j : Fin 16, t.key[j.val] = if j = k then false else s.key[j.val]) ∧
        t = { s with key := t.key, result := .ok, events := [] })) ∧
    (keyCode sym = none →
      s.command (.press sym now) = .next { s with result := .invalid .unknownKeySymbol sym, events := [] } ∧
      s.command (.release sym) = .next { s with result := .invalid .unknownKeySymbol sym, events := [] })

/-- R224, with D25: the key map is the 16 pairs of the table and nothing else. -/
def Obligations.KeymapIsTheTable : Prop :=
  ∀ (sym : Symbol) (k : Fin 16), keyCode sym = some k ↔
    (sym, k) ∈ [(['1'], 0x1), (['2'], 0x2), (['3'], 0x3), (['4'], 0xC), (['Q'], 0x4), (['W'], 0x5), (['E'], 0x6), (['R'], 0xD),
      (['A'], 0x7), (['S'], 0x8), (['D'], 0x9), (['F'], 0xA), (['Z'], 0x0), (['X'], 0xB), (['C'], 0xF), (['V'], (0xE : Fin 16))]

/-- R223, R229, with D24: after a sweep at `now` a key is pressed exactly when it was and its window has not been exceeded;
the sweep changes nothing else. -/
def Obligations.SweepReleasesElapsedKeys : Prop :=
  ∀ (s : State) (now : Nat),
    (∀ k : Fin 16, (s.sweep now).key[k.val] = true ↔
      s.key[k.val] = true ∧ now - s.stamp[k.val] ≤ s.params.debounceMs) ∧
    s.sweep now = { s with key := (s.sweep now).key }

/-- R232, R233, with D10: with a key code in `V[x]` the two key skips test that key and change nothing but `PC`; above 15
they raise KeyIndexRange and change nothing else. -/
def Obligations.KeySkipsTestTheKey : Prop :=
  ∀ (x : Reg) (s : State),
    (∀ k : Fin 16, (s.getV x).toNat = k.val →
      exec (.skp x) s = .next { s with PC := if s.key[k.val] then s.PC + 2 else s.PC } ∧
      exec (.sknp x) s = .next { s with PC := if s.key[k.val] then s.PC else s.PC + 2 }) ∧
    (15 < (s.getV x).toNat →
      exec (.skp x) s = .next { s with result := .fault .keyIndexRange (s.getV x).toNat } ∧
      exec (.sknp x) s = .next { s with result := .fault .keyIndexRange (s.getV x).toNat })

/-- R234: `Fx0A` completes and changes nothing. -/
def Obligations.KeyWaitIsNoOperation : Prop := ∀ (x : Reg) (s : State), exec (.ldVxK x) s = .next s

/-- R229, R230, R232, R284: a step that executes `Ex9E` on a pressed key skips exactly when the window of the key is not
exceeded at the step's clock sample, and the key ends released exactly when it is. -/
def Obligations.KeySkipSeesTheSweep : Prop :=
  ∀ (s : State) (now : Nat) (rnd : Byte) (x : Reg) (k : Fin 16),
    s.nextCommand = .step now rnd → s.running = true → s.PC.toNat ≤ 4094 → decode s.wordAtPC = .ok (.skp x) →
    (s.getV x).toNat = k.val → s.key[k.val] = true →
    ∃ t, step s = .next t ∧
      t.PC = (if now - s.stamp[k.val] ≤ s.params.debounceMs then s.PC + 2 + 2 else s.PC + 2) ∧
      (t.key[k.val] = true ↔ now - s.stamp[k.val] ≤ s.params.debounceMs)

/-! ### Timers (45_timers) -/

/-- R251: after `k` ticks with no write in between each counter holds `max(0, c - k)`. -/
def Obligations.TimersCountDownToZero : Prop :=
  ∀ (k : Nat) (s : State), (State.tick^[k] s).DT.toNat = s.DT.toNat - k ∧
    (State.tick^[k] s).ST.toNat = s.ST.toNat - k

/-- R254, R256, with D19, D20: the six cases of the sound clause of a tick. -/
def Obligations.SoundClauseSixCases : Prop :=
  ∀ s : State,
    (s.ST.toNat = 0 → s.sounding = false → s.tick.ST = 0 ∧ s.tick.sounding = false ∧ s.tick.events = s.events) ∧
    (2 ≤ s.ST.toNat → s.sounding = false → s.tick.ST.toNat = s.ST.toNat - 1 ∧ s.tick.sounding = true ∧
      s.tick.events = s.events ++ [.audio true]) ∧
    (2 ≤ s.ST.toNat → s.sounding = true → s.tick.ST.toNat = s.ST.toNat - 1 ∧ s.tick.sounding = true ∧
      s.tick.events = s.events) ∧
    (s.ST.toNat = 1 → s.sounding = true → s.tick.ST = 0 ∧ s.tick.sounding = false ∧
      s.tick.events = s.events ++ [.audio false]) ∧
    (s.ST.toNat = 0 → s.sounding = true → s.tick.ST = 0 ∧ s.tick.sounding = false ∧
      s.tick.events = s.events ++ [.audio false]) ∧
    (s.ST.toNat = 1 → s.sounding = false → s.tick.ST = 0 ∧ s.tick.sounding = false ∧
      s.tick.events = s.events ++ [.audio true, .audio false])

/-- R254, R263: a sound timer holding `c > 0` while silent sends audio-on in its first tick, nothing until its `c`-th, where
it sends audio-off, and nothing after that. -/
def Obligations.SoundIsSwitchedOnOnceAndOffOnce : Prop :=
  ∀ (s : State) (k : Nat), 0 < s.ST.toNat → s.sounding = false → 0 < k →
    (k < s.ST.toNat → (State.tick^[k] s).events = s.events ++ [.audio true] ∧ (State.tick^[k] s).sounding = true) ∧
    (s.ST.toNat ≤ k → (State.tick^[k] s).events = s.events ++ [.audio true, .audio false] ∧
      (State.tick^[k] s).sounding = false)

/-- R259, R260, R261, with D15 for which code is which: `Fx07` reads `DT`, `Fx15` writes it, `Fx18` writes `ST`; nothing
else changes. -/
def Obligations.TimerInstructionsMoveOneByte : Prop :=
  ∀ (x : Reg) (s : State),
    (∃ t, exec (.ldVxDT x) s = .next t ∧ t.getV x = s.DT ∧ (∀ r, r ≠ x → t.getV r = s.getV r) ∧
      t = { s with V := t.V } ∧ s.sameMemory t) ∧
    exec (.ldDTVx x) s = .next { s with DT := s.getV x } ∧
    exec (.ldSTVx x) s = .next { s with ST := s.getV x }

/-- R258 (1), with D15: a step that executes `Fx15` or `Fx18` with `V[x] = c` ends with the timer at `max(0, c - 1)`. -/
def Obligations.TimerWriteTicksInItsOwnStep : Prop :=
  ∀ (s : State) (now : Nat) (rnd : Byte) (x : Reg),
    s.nextCommand = .step now rnd → s.running = true → s.PC.toNat ≤ 4094 →
    (decode s.wordAtPC = .ok (.ldDTVx x) → ∃ t, step s = .next t ∧ t.DT.toNat = (s.getV x).toNat - 1) ∧
    (decode s.wordAtPC = .ok (.ldSTVx x) → ∃ t, step s = .next t ∧ t.ST.toNat = (s.getV x).toNat - 1)

/-! ### The step and the commands (46_scheduler_and_host, 60_exceptions)

Here and in the two statements above about a step, the queue `pending` that `nextCommand` and `atFetch` take the command from,
the fields `clock`, `draws` and `rnd` that hold its inputs, and `result` and `events` that hold its answer are the model's
choice (logs 2 to 5). -/

/-- R284, R286: when the next command is `step(now, rnd)`, the machine is RUNNING and the bytes at `PC` decode to `i`, the
step sweeps, advances `PC` by 2, runs `exec i`, and then ticks and flushes unless the instruction raised a fault. -/
def Obligations.StepRunsTheDecodedInstruction : Prop :=
  ∀ (s : State) (now : Nat) (rnd : Byte) (i : Instr),
    s.nextCommand = .step now rnd → s.running = true → s.PC.toNat ≤ 4094 → decode s.wordAtPC = .ok i →
    step s =
      match exec i { s.atFetch now rnd with PC := s.PC + 2 } with
      | .next u => .next (if u.faulted then u else u.tick.flushIfDirty)
      | .fault r => .fault r
      | .refused r => .refused r

/-- R286, R322, with D30: an unrecognized word is reported with its address, and the step goes on with tick and flush. -/
def Obligations.StepReportsAnUnrecognizedWord : Prop :=
  ∀ (s : State) (now : Nat) (rnd : Byte) (e : DecodeError),
    s.nextCommand = .step now rnd → s.running = true → s.PC.toNat ≤ 4094 → decode s.wordAtPC = .error e →
    step s = .next ({ s.atFetch now rnd with
      PC := s.PC + 2, events := [.diag .unrecognizedOpcode s.wordAtPC s.PC.toNat] }).tick.flushIfDirty

/-- R285, with D4: a RUNNING step with `PC > 4094` sweeps and raises FetchBounds; `PC` is not advanced, nothing ticks. -/
def Obligations.StepBeyondMemoryFaults : Prop :=
  ∀ (s : State) (now : Nat) (rnd : Byte), s.nextCommand = .step now rnd → s.running = true → 4094 < s.PC.toNat →
    step s = .next { s.atFetch now rnd with result := .fault .fetchBounds s.PC.toNat }

/-- R287: `step` while STOPPED answers Stopped and does nothing; it takes no clock sample and no draw. That the command leaves
the queue `pending`, and that the answer stands in `result` and `events`, is the model's choice (logs 2, 5), and so are the
fields `clock` and `rnd` that stay as they were (logs 3, 4). -/
def Obligations.StoppedStepDoesNothing : Prop :=
  ∀ (s : State) (now : Nat) (rnd : Byte), s.nextCommand = .step now rnd → s.running = false →
    step s = .next { s with pending := s.pending.tail, result := .stopped, events := [] }

/-- Log 2, log 3: a step takes the oldest command queued, and with none queued a `step` whose clock sample is not below
the last one. The queue is the model's. -/
def Obligations.StepTakesTheNextCommand : Prop :=
  ∀ s : State, (∀ c cs, s.pending = c :: cs → step s = ({ s with pending := cs }).command c) ∧
    (s.pending = [] → ∃ now rnd, s.clock ≤ now ∧ step s = s.command (.step now rnd))

/-- R321, R325, R326, with D6, D8, D10: every instruction answers a next state; it raises exactly the fault of its row of the
table, with that `info`, exactly under that condition, and then it has changed nothing else. -/
def Obligations.FaultsArePreciseAndFromTheTable : Prop :=
  ∀ (i : Instr) (s : State), s.result = .ok → ∃ t, exec i s = .next t ∧
    match faultOf i s with
    | some (c, n) => t = { s with result := .fault c n }
    | none => t.result = .ok

/-- R326, with D8: a step whose instruction raises a fault leaves the sweep done and `PC` advanced by 2, and nothing else:
no tick, no flush, no event, `running` as it was. -/
def Obligations.FaultingStepIsCutShort : Prop :=
  ∀ (s : State) (now : Nat) (rnd : Byte) (i : Instr) (c : Cause) (n : Nat),
    s.nextCommand = .step now rnd → s.running = true → s.PC.toNat ≤ 4094 → decode s.wordAtPC = .ok i →
    faultOf i { s.atFetch now rnd with PC := s.PC + 2 } = some (c, n) →
    step s = .next { s.atFetch now rnd with PC := s.PC + 2, result := .fault c n }

/-- R282: a new machine is STOPPED, and the run state after every command; no instruction and no fault changes it. -/
def Obligations.RunStateChangesOnlyByCommand : Prop :=
  (∀ p : Params, (State.construct p).running = false) ∧ ∀ (s t : State) (c : Command), s.command c = .next t →
    t.running = match c with
      | .start => true
      | .stop => false
      | .reset => false
      | .step _ _ => s.running
      | .press _ _ => s.running
      | .release _ => s.running
      | .loadProgram _ => s.running

/-- R40, R288, with D21 and D35: `reset`, in any state, answers Ok without an event and leaves every component at its value
of the table, the font in place and the rest of memory zero. -/
def Obligations.ResetLeavesTheTable : Prop :=
  ∀ s : State, ∃ t, s.command .reset = .next t ∧ t.result = .ok ∧ t.events = [] ∧ t.PC = 0x200 ∧ t.I = 0 ∧
    t.SP = 0 ∧ t.DT = 0 ∧ t.ST = 0 ∧ t.sounding = false ∧ t.dirty = false ∧ t.running = false ∧
    (∀ r, t.getV r = 0) ∧ (∀ j : Fin 16, t.stack[j.val] = 0 ∧ t.key[j.val] = false ∧ t.stamp[j.val] = 0) ∧
    (∀ py px, t.FB.pixel py px = false) ∧ t.params = s.params ∧
    (∀ j : Fin 5, t.readByte (0x50 + j.val) = #v[0xF0, 0x90, 0x90, 0x90, 0xF0][j.val]) ∧
    (∀ (g : Fin 15) (j : Fin 5), t.readByte (0x50 + 5 * (g.val + 1) + j.val) = s.params.glyphs[g.val][j.val]) ∧
    (∀ a, a < 0x50 ∨ 0xA0 ≤ a → t.readByte a = 0)

/-- R75: `loadProgram` of at most 3584 bytes writes them from 0x200 on and changes nothing else; of more it raises
LoadBounds and writes nothing. -/
def Obligations.LoadProgramWritesItsBytesAlone : Prop :=
  ∀ (s : State) (bytes : List Byte),
    (bytes.length ≤ 3584 → ∃ t, s.command (.loadProgram bytes) = .next t ∧
      (∀ j, j < bytes.length → t.readByte (0x200 + j) = bytes.getD j 0) ∧
      (∀ a, a < 0x200 ∨ 0x200 + bytes.length ≤ a → t.readByte a = s.readByte a) ∧
      t = { s with mem := t.mem, result := .ok, events := [] }) ∧
    (3584 < bytes.length →
      s.command (.loadProgram bytes) = .next { s with result := .fault .loadBounds bytes.length, events := [] })

/-- R289, with D35: `reset` followed by `loadProgram` gives the memory of a fresh machine that loaded the same bytes. -/
def Obligations.ResetThenLoadEqualsFreshLoad : Prop :=
  ∀ (s : State) (bytes : List Byte), bytes.length ≤ 3584 →
    ∃ t u v, s.command .reset = .next t ∧ t.command (.loadProgram bytes) = .next u ∧
      (State.construct s.params).command (.loadProgram bytes) = .next v ∧ u.mem = v.mem ∧ v.sameMemory u

/-! ### The whole machine -/

/-- R36, R220, R250, R282: no instruction touches the keys and their stamps, `sounding`, the run state, the machine's
arguments, the host's queue and inputs, or the events. R69: no instruction but `Fx33` and `Fx55` changes a byte of
memory. -/
def Obligations.InstructionsLeaveHostStateAndMemoryAlone : Prop :=
  ∀ (i : Instr) (s t : State), exec i s = .next t →
    ((∀ x, i ≠ .ldB x) → (∀ x, i ≠ .storeRegs x) → t.mem = s.mem ∧ s.sameMemory t) ∧
    t.key = s.key ∧ t.stamp = s.stamp ∧ t.sounding = s.sounding ∧ t.running = s.running ∧ t.params = s.params ∧
    t.pending = s.pending ∧ t.clock = s.clock ∧ t.draws = s.draws ∧ t.rnd = s.rnd ∧ t.events = s.events

/-- R156: no instruction but `Cxnn` reads the draw: with another draw it does the same. -/
def Obligations.OnlyRandomReadsTheDraw : Prop :=
  ∀ (i : Instr) (s t : State) (d : Byte), (∀ x nn, i ≠ .rnd x nn) → exec i s = .next t →
    exec i { s with rnd := d } = .next { t with rnd := d }

/-- R40: the invariants hold in the state after reset, the host's queue empty there (the model's choice, log 2). -/
def Obligations.InvariantHoldsAtReset : Prop := State.reset.Inv ∧ State.reset.ClockOk

/-- R24, R25, R210, R253 and log 7: every step keeps the invariants: canonical memory, `dirty` false, `sounding = (ST > 0)`,
`PC ≤ 0x10FE`, stack entries at most 4096. -/
def Obligations.StepKeepsTheInvariant : Prop := ∀ s t : State, s.Inv → step s = .next t → t.Inv

/-- R222, R230: while the host keeps its duty, every step leaves the samples to come rising and no pressed key stamped in
the future, so that no elapsed time is negative. The fields `pending` and `clock` are the model's choice (logs 2, 3). -/
def Obligations.StepKeepsTheClockOrder : Prop := ∀ s t : State, s.ClockOk → step s = .next t → t.ClockOk

/-- R24, R25, R210, R253: the invariants hold in every state some run reaches, whatever the machine's arguments and the
host's commands. The canonical form of memory among them is the model's choice (log 7), and so is the queue that holds the
host's commands (log 2). -/
def Obligations.EveryRunKeepsTheInvariant : Prop := ∀ s : State, Reachable s → s.Inv

/-- R298 and 93_implementation_defined Part 1: nothing is stuck: every step in every state answers a next state, of the same
machine. -/
def Obligations.EveryStepAnswers : Prop := ∀ s : State, ∃ t, step s = .next t ∧ t.params = s.params
end

