-- ==== Sys2Proof/Laws/State.lean ====
section
/-! SUPPORT. The small lemmas of the state's updates: one per field per update, true by rfl, so that no later proof unfolds
a record update. -/

namespace Sys2Proof.Machine

/-! ### `State.setV` -/

@[simp] theorem State.setV_mem (s : State) (r : Reg) (v : Byte) : (s.setV r v).mem = s.mem := rfl
@[simp] theorem State.setV_V (s : State) (r : Reg) (v : Byte) : (s.setV r v).V = s.V.set r.val v := rfl
@[simp] theorem State.setV_I (s : State) (r : Reg) (v : Byte) : (s.setV r v).I = s.I := rfl
@[simp] theorem State.setV_PC (s : State) (r : Reg) (v : Byte) : (s.setV r v).PC = s.PC := rfl
@[simp] theorem State.setV_stack (s : State) (r : Reg) (v : Byte) : (s.setV r v).stack = s.stack := rfl
@[simp] theorem State.setV_SP (s : State) (r : Reg) (v : Byte) : (s.setV r v).SP = s.SP := rfl
@[simp] theorem State.setV_DT (s : State) (r : Reg) (v : Byte) : (s.setV r v).DT = s.DT := rfl
@[simp] theorem State.setV_ST (s : State) (r : Reg) (v : Byte) : (s.setV r v).ST = s.ST := rfl
@[simp] theorem State.setV_sounding (s : State) (r : Reg) (v : Byte) : (s.setV r v).sounding = s.sounding := rfl
@[simp] theorem State.setV_key (s : State) (r : Reg) (v : Byte) : (s.setV r v).key = s.key := rfl
@[simp] theorem State.setV_stamp (s : State) (r : Reg) (v : Byte) : (s.setV r v).stamp = s.stamp := rfl
@[simp] theorem State.setV_FB (s : State) (r : Reg) (v : Byte) : (s.setV r v).FB = s.FB := rfl
@[simp] theorem State.setV_dirty (s : State) (r : Reg) (v : Byte) : (s.setV r v).dirty = s.dirty := rfl
@[simp] theorem State.setV_running (s : State) (r : Reg) (v : Byte) : (s.setV r v).running = s.running := rfl
@[simp] theorem State.setV_params (s : State) (r : Reg) (v : Byte) : (s.setV r v).params = s.params := rfl
@[simp] theorem State.setV_rnd (s : State) (r : Reg) (v : Byte) : (s.setV r v).rnd = s.rnd := rfl
@[simp] theorem State.setV_pending (s : State) (r : Reg) (v : Byte) : (s.setV r v).pending = s.pending := rfl
@[simp] theorem State.setV_clock (s : State) (r : Reg) (v : Byte) : (s.setV r v).clock = s.clock := rfl
@[simp] theorem State.setV_draws (s : State) (r : Reg) (v : Byte) : (s.setV r v).draws = s.draws := rfl
@[simp] theorem State.setV_result (s : State) (r : Reg) (v : Byte) : (s.setV r v).result = s.result := rfl
@[simp] theorem State.setV_events (s : State) (r : Reg) (v : Byte) : (s.setV r v).events = s.events := rfl

/-! ### `State.setI` -/

@[simp] theorem State.setI_mem (s : State) (v : Word) : (s.setI v).mem = s.mem := rfl
@[simp] theorem State.setI_V (s : State) (v : Word) : (s.setI v).V = s.V := rfl
@[simp] theorem State.setI_I (s : State) (v : Word) : (s.setI v).I = v := rfl
@[simp] theorem State.setI_PC (s : State) (v : Word) : (s.setI v).PC = s.PC := rfl
@[simp] theorem State.setI_stack (s : State) (v : Word) : (s.setI v).stack = s.stack := rfl
@[simp] theorem State.setI_SP (s : State) (v : Word) : (s.setI v).SP = s.SP := rfl
@[simp] theorem State.setI_DT (s : State) (v : Word) : (s.setI v).DT = s.DT := rfl
@[simp] theorem State.setI_ST (s : State) (v : Word) : (s.setI v).ST = s.ST := rfl
@[simp] theorem State.setI_sounding (s : State) (v : Word) : (s.setI v).sounding = s.sounding := rfl
@[simp] theorem State.setI_key (s : State) (v : Word) : (s.setI v).key = s.key := rfl
@[simp] theorem State.setI_stamp (s : State) (v : Word) : (s.setI v).stamp = s.stamp := rfl
@[simp] theorem State.setI_FB (s : State) (v : Word) : (s.setI v).FB = s.FB := rfl
@[simp] theorem State.setI_dirty (s : State) (v : Word) : (s.setI v).dirty = s.dirty := rfl
@[simp] theorem State.setI_running (s : State) (v : Word) : (s.setI v).running = s.running := rfl
@[simp] theorem State.setI_params (s : State) (v : Word) : (s.setI v).params = s.params := rfl
@[simp] theorem State.setI_rnd (s : State) (v : Word) : (s.setI v).rnd = s.rnd := rfl
@[simp] theorem State.setI_pending (s : State) (v : Word) : (s.setI v).pending = s.pending := rfl
@[simp] theorem State.setI_clock (s : State) (v : Word) : (s.setI v).clock = s.clock := rfl
@[simp] theorem State.setI_draws (s : State) (v : Word) : (s.setI v).draws = s.draws := rfl
@[simp] theorem State.setI_result (s : State) (v : Word) : (s.setI v).result = s.result := rfl
@[simp] theorem State.setI_events (s : State) (v : Word) : (s.setI v).events = s.events := rfl

/-! ### `State.setPC` -/

@[simp] theorem State.setPC_mem (s : State) (v : Word) : (s.setPC v).mem = s.mem := rfl
@[simp] theorem State.setPC_V (s : State) (v : Word) : (s.setPC v).V = s.V := rfl
@[simp] theorem State.setPC_I (s : State) (v : Word) : (s.setPC v).I = s.I := rfl
@[simp] theorem State.setPC_PC (s : State) (v : Word) : (s.setPC v).PC = v := rfl
@[simp] theorem State.setPC_stack (s : State) (v : Word) : (s.setPC v).stack = s.stack := rfl
@[simp] theorem State.setPC_SP (s : State) (v : Word) : (s.setPC v).SP = s.SP := rfl
@[simp] theorem State.setPC_DT (s : State) (v : Word) : (s.setPC v).DT = s.DT := rfl
@[simp] theorem State.setPC_ST (s : State) (v : Word) : (s.setPC v).ST = s.ST := rfl
@[simp] theorem State.setPC_sounding (s : State) (v : Word) : (s.setPC v).sounding = s.sounding := rfl
@[simp] theorem State.setPC_key (s : State) (v : Word) : (s.setPC v).key = s.key := rfl
@[simp] theorem State.setPC_stamp (s : State) (v : Word) : (s.setPC v).stamp = s.stamp := rfl
@[simp] theorem State.setPC_FB (s : State) (v : Word) : (s.setPC v).FB = s.FB := rfl
@[simp] theorem State.setPC_dirty (s : State) (v : Word) : (s.setPC v).dirty = s.dirty := rfl
@[simp] theorem State.setPC_running (s : State) (v : Word) : (s.setPC v).running = s.running := rfl
@[simp] theorem State.setPC_params (s : State) (v : Word) : (s.setPC v).params = s.params := rfl
@[simp] theorem State.setPC_rnd (s : State) (v : Word) : (s.setPC v).rnd = s.rnd := rfl
@[simp] theorem State.setPC_pending (s : State) (v : Word) : (s.setPC v).pending = s.pending := rfl
@[simp] theorem State.setPC_clock (s : State) (v : Word) : (s.setPC v).clock = s.clock := rfl
@[simp] theorem State.setPC_draws (s : State) (v : Word) : (s.setPC v).draws = s.draws := rfl
@[simp] theorem State.setPC_result (s : State) (v : Word) : (s.setPC v).result = s.result := rfl
@[simp] theorem State.setPC_events (s : State) (v : Word) : (s.setPC v).events = s.events := rfl

/-! ### `State.setDT` -/

@[simp] theorem State.setDT_mem (s : State) (v : Byte) : (s.setDT v).mem = s.mem := rfl
@[simp] theorem State.setDT_V (s : State) (v : Byte) : (s.setDT v).V = s.V := rfl
@[simp] theorem State.setDT_I (s : State) (v : Byte) : (s.setDT v).I = s.I := rfl
@[simp] theorem State.setDT_PC (s : State) (v : Byte) : (s.setDT v).PC = s.PC := rfl
@[simp] theorem State.setDT_stack (s : State) (v : Byte) : (s.setDT v).stack = s.stack := rfl
@[simp] theorem State.setDT_SP (s : State) (v : Byte) : (s.setDT v).SP = s.SP := rfl
@[simp] theorem State.setDT_DT (s : State) (v : Byte) : (s.setDT v).DT = v := rfl
@[simp] theorem State.setDT_ST (s : State) (v : Byte) : (s.setDT v).ST = s.ST := rfl
@[simp] theorem State.setDT_sounding (s : State) (v : Byte) : (s.setDT v).sounding = s.sounding := rfl
@[simp] theorem State.setDT_key (s : State) (v : Byte) : (s.setDT v).key = s.key := rfl
@[simp] theorem State.setDT_stamp (s : State) (v : Byte) : (s.setDT v).stamp = s.stamp := rfl
@[simp] theorem State.setDT_FB (s : State) (v : Byte) : (s.setDT v).FB = s.FB := rfl
@[simp] theorem State.setDT_dirty (s : State) (v : Byte) : (s.setDT v).dirty = s.dirty := rfl
@[simp] theorem State.setDT_running (s : State) (v : Byte) : (s.setDT v).running = s.running := rfl
@[simp] theorem State.setDT_params (s : State) (v : Byte) : (s.setDT v).params = s.params := rfl
@[simp] theorem State.setDT_rnd (s : State) (v : Byte) : (s.setDT v).rnd = s.rnd := rfl
@[simp] theorem State.setDT_pending (s : State) (v : Byte) : (s.setDT v).pending = s.pending := rfl
@[simp] theorem State.setDT_clock (s : State) (v : Byte) : (s.setDT v).clock = s.clock := rfl
@[simp] theorem State.setDT_draws (s : State) (v : Byte) : (s.setDT v).draws = s.draws := rfl
@[simp] theorem State.setDT_result (s : State) (v : Byte) : (s.setDT v).result = s.result := rfl
@[simp] theorem State.setDT_events (s : State) (v : Byte) : (s.setDT v).events = s.events := rfl

/-! ### `State.setST` -/

@[simp] theorem State.setST_mem (s : State) (v : Byte) : (s.setST v).mem = s.mem := rfl
@[simp] theorem State.setST_V (s : State) (v : Byte) : (s.setST v).V = s.V := rfl
@[simp] theorem State.setST_I (s : State) (v : Byte) : (s.setST v).I = s.I := rfl
@[simp] theorem State.setST_PC (s : State) (v : Byte) : (s.setST v).PC = s.PC := rfl
@[simp] theorem State.setST_stack (s : State) (v : Byte) : (s.setST v).stack = s.stack := rfl
@[simp] theorem State.setST_SP (s : State) (v : Byte) : (s.setST v).SP = s.SP := rfl
@[simp] theorem State.setST_DT (s : State) (v : Byte) : (s.setST v).DT = s.DT := rfl
@[simp] theorem State.setST_ST (s : State) (v : Byte) : (s.setST v).ST = v := rfl
@[simp] theorem State.setST_sounding (s : State) (v : Byte) : (s.setST v).sounding = s.sounding := rfl
@[simp] theorem State.setST_key (s : State) (v : Byte) : (s.setST v).key = s.key := rfl
@[simp] theorem State.setST_stamp (s : State) (v : Byte) : (s.setST v).stamp = s.stamp := rfl
@[simp] theorem State.setST_FB (s : State) (v : Byte) : (s.setST v).FB = s.FB := rfl
@[simp] theorem State.setST_dirty (s : State) (v : Byte) : (s.setST v).dirty = s.dirty := rfl
@[simp] theorem State.setST_running (s : State) (v : Byte) : (s.setST v).running = s.running := rfl
@[simp] theorem State.setST_params (s : State) (v : Byte) : (s.setST v).params = s.params := rfl
@[simp] theorem State.setST_rnd (s : State) (v : Byte) : (s.setST v).rnd = s.rnd := rfl
@[simp] theorem State.setST_pending (s : State) (v : Byte) : (s.setST v).pending = s.pending := rfl
@[simp] theorem State.setST_clock (s : State) (v : Byte) : (s.setST v).clock = s.clock := rfl
@[simp] theorem State.setST_draws (s : State) (v : Byte) : (s.setST v).draws = s.draws := rfl
@[simp] theorem State.setST_result (s : State) (v : Byte) : (s.setST v).result = s.result := rfl
@[simp] theorem State.setST_events (s : State) (v : Byte) : (s.setST v).events = s.events := rfl

/-! ### `State.setFrame` -/

@[simp] theorem State.setFrame_mem (s : State) (f : Frame) : (s.setFrame f).mem = s.mem := rfl
@[simp] theorem State.setFrame_V (s : State) (f : Frame) : (s.setFrame f).V = s.V := rfl
@[simp] theorem State.setFrame_I (s : State) (f : Frame) : (s.setFrame f).I = s.I := rfl
@[simp] theorem State.setFrame_PC (s : State) (f : Frame) : (s.setFrame f).PC = s.PC := rfl
@[simp] theorem State.setFrame_stack (s : State) (f : Frame) : (s.setFrame f).stack = s.stack := rfl
@[simp] theorem State.setFrame_SP (s : State) (f : Frame) : (s.setFrame f).SP = s.SP := rfl
@[simp] theorem State.setFrame_DT (s : State) (f : Frame) : (s.setFrame f).DT = s.DT := rfl
@[simp] theorem State.setFrame_ST (s : State) (f : Frame) : (s.setFrame f).ST = s.ST := rfl
@[simp] theorem State.setFrame_sounding (s : State) (f : Frame) : (s.setFrame f).sounding = s.sounding := rfl
@[simp] theorem State.setFrame_key (s : State) (f : Frame) : (s.setFrame f).key = s.key := rfl
@[simp] theorem State.setFrame_stamp (s : State) (f : Frame) : (s.setFrame f).stamp = s.stamp := rfl
@[simp] theorem State.setFrame_FB (s : State) (f : Frame) : (s.setFrame f).FB = f := rfl
@[simp] theorem State.setFrame_dirty (s : State) (f : Frame) : (s.setFrame f).dirty = true := rfl
@[simp] theorem State.setFrame_running (s : State) (f : Frame) : (s.setFrame f).running = s.running := rfl
@[simp] theorem State.setFrame_params (s : State) (f : Frame) : (s.setFrame f).params = s.params := rfl
@[simp] theorem State.setFrame_rnd (s : State) (f : Frame) : (s.setFrame f).rnd = s.rnd := rfl
@[simp] theorem State.setFrame_pending (s : State) (f : Frame) : (s.setFrame f).pending = s.pending := rfl
@[simp] theorem State.setFrame_clock (s : State) (f : Frame) : (s.setFrame f).clock = s.clock := rfl
@[simp] theorem State.setFrame_draws (s : State) (f : Frame) : (s.setFrame f).draws = s.draws := rfl
@[simp] theorem State.setFrame_result (s : State) (f : Frame) : (s.setFrame f).result = s.result := rfl
@[simp] theorem State.setFrame_events (s : State) (f : Frame) : (s.setFrame f).events = s.events := rfl

/-! ### `State.takeFault` -/

@[simp] theorem State.takeFault_mem (s : State) (c : Cause) (n : Nat) : (s.takeFault c n).mem = s.mem := rfl
@[simp] theorem State.takeFault_V (s : State) (c : Cause) (n : Nat) : (s.takeFault c n).V = s.V := rfl
@[simp] theorem State.takeFault_I (s : State) (c : Cause) (n : Nat) : (s.takeFault c n).I = s.I := rfl
@[simp] theorem State.takeFault_PC (s : State) (c : Cause) (n : Nat) : (s.takeFault c n).PC = s.PC := rfl
@[simp] theorem State.takeFault_stack (s : State) (c : Cause) (n : Nat) : (s.takeFault c n).stack = s.stack := rfl
@[simp] theorem State.takeFault_SP (s : State) (c : Cause) (n : Nat) : (s.takeFault c n).SP = s.SP := rfl
@[simp] theorem State.takeFault_DT (s : State) (c : Cause) (n : Nat) : (s.takeFault c n).DT = s.DT := rfl
@[simp] theorem State.takeFault_ST (s : State) (c : Cause) (n : Nat) : (s.takeFault c n).ST = s.ST := rfl
@[simp] theorem State.takeFault_sounding (s : State) (c : Cause) (n : Nat) : (s.takeFault c n).sounding = s.sounding := rfl
@[simp] theorem State.takeFault_key (s : State) (c : Cause) (n : Nat) : (s.takeFault c n).key = s.key := rfl
@[simp] theorem State.takeFault_stamp (s : State) (c : Cause) (n : Nat) : (s.takeFault c n).stamp = s.stamp := rfl
@[simp] theorem State.takeFault_FB (s : State) (c : Cause) (n : Nat) : (s.takeFault c n).FB = s.FB := rfl
@[simp] theorem State.takeFault_dirty (s : State) (c : Cause) (n : Nat) : (s.takeFault c n).dirty = s.dirty := rfl
@[simp] theorem State.takeFault_running (s : State) (c : Cause) (n : Nat) : (s.takeFault c n).running = s.running := rfl
@[simp] theorem State.takeFault_params (s : State) (c : Cause) (n : Nat) : (s.takeFault c n).params = s.params := rfl
@[simp] theorem State.takeFault_rnd (s : State) (c : Cause) (n : Nat) : (s.takeFault c n).rnd = s.rnd := rfl
@[simp] theorem State.takeFault_pending (s : State) (c : Cause) (n : Nat) : (s.takeFault c n).pending = s.pending := rfl
@[simp] theorem State.takeFault_clock (s : State) (c : Cause) (n : Nat) : (s.takeFault c n).clock = s.clock := rfl
@[simp] theorem State.takeFault_draws (s : State) (c : Cause) (n : Nat) : (s.takeFault c n).draws = s.draws := rfl
@[simp] theorem State.takeFault_result (s : State) (c : Cause) (n : Nat) : (s.takeFault c n).result = .fault c n := rfl
@[simp] theorem State.takeFault_events (s : State) (c : Cause) (n : Nat) : (s.takeFault c n).events = s.events := rfl

/-! ### `State.emit` -/

@[simp] theorem State.emit_mem (s : State) (e : Event) : (s.emit e).mem = s.mem := rfl
@[simp] theorem State.emit_V (s : State) (e : Event) : (s.emit e).V = s.V := rfl
@[simp] theorem State.emit_I (s : State) (e : Event) : (s.emit e).I = s.I := rfl
@[simp] theorem State.emit_PC (s : State) (e : Event) : (s.emit e).PC = s.PC := rfl
@[simp] theorem State.emit_stack (s : State) (e : Event) : (s.emit e).stack = s.stack := rfl
@[simp] theorem State.emit_SP (s : State) (e : Event) : (s.emit e).SP = s.SP := rfl
@[simp] theorem State.emit_DT (s : State) (e : Event) : (s.emit e).DT = s.DT := rfl
@[simp] theorem State.emit_ST (s : State) (e : Event) : (s.emit e).ST = s.ST := rfl
@[simp] theorem State.emit_sounding (s : State) (e : Event) : (s.emit e).sounding = s.sounding := rfl
@[simp] theorem State.emit_key (s : State) (e : Event) : (s.emit e).key = s.key := rfl
@[simp] theorem State.emit_stamp (s : State) (e : Event) : (s.emit e).stamp = s.stamp := rfl
@[simp] theorem State.emit_FB (s : State) (e : Event) : (s.emit e).FB = s.FB := rfl
@[simp] theorem State.emit_dirty (s : State) (e : Event) : (s.emit e).dirty = s.dirty := rfl
@[simp] theorem State.emit_running (s : State) (e : Event) : (s.emit e).running = s.running := rfl
@[simp] theorem State.emit_params (s : State) (e : Event) : (s.emit e).params = s.params := rfl
@[simp] theorem State.emit_rnd (s : State) (e : Event) : (s.emit e).rnd = s.rnd := rfl
@[simp] theorem State.emit_pending (s : State) (e : Event) : (s.emit e).pending = s.pending := rfl
@[simp] theorem State.emit_clock (s : State) (e : Event) : (s.emit e).clock = s.clock := rfl
@[simp] theorem State.emit_draws (s : State) (e : Event) : (s.emit e).draws = s.draws := rfl
@[simp] theorem State.emit_result (s : State) (e : Event) : (s.emit e).result = s.result := rfl
@[simp] theorem State.emit_events (s : State) (e : Event) : (s.emit e).events = s.events ++ [e] := rfl

/-! ### `State.dropTop` -/

@[simp] theorem State.dropTop_mem (s : State) : (s.dropTop).mem = s.mem := rfl
@[simp] theorem State.dropTop_V (s : State) : (s.dropTop).V = s.V := rfl
@[simp] theorem State.dropTop_I (s : State) : (s.dropTop).I = s.I := rfl
@[simp] theorem State.dropTop_PC (s : State) : (s.dropTop).PC = s.PC := rfl
@[simp] theorem State.dropTop_stack (s : State) : (s.dropTop).stack = s.stack := rfl
@[simp] theorem State.dropTop_DT (s : State) : (s.dropTop).DT = s.DT := rfl
@[simp] theorem State.dropTop_ST (s : State) : (s.dropTop).ST = s.ST := rfl
@[simp] theorem State.dropTop_sounding (s : State) : (s.dropTop).sounding = s.sounding := rfl
@[simp] theorem State.dropTop_key (s : State) : (s.dropTop).key = s.key := rfl
@[simp] theorem State.dropTop_stamp (s : State) : (s.dropTop).stamp = s.stamp := rfl
@[simp] theorem State.dropTop_FB (s : State) : (s.dropTop).FB = s.FB := rfl
@[simp] theorem State.dropTop_dirty (s : State) : (s.dropTop).dirty = s.dirty := rfl
@[simp] theorem State.dropTop_running (s : State) : (s.dropTop).running = s.running := rfl
@[simp] theorem State.dropTop_params (s : State) : (s.dropTop).params = s.params := rfl
@[simp] theorem State.dropTop_rnd (s : State) : (s.dropTop).rnd = s.rnd := rfl
@[simp] theorem State.dropTop_pending (s : State) : (s.dropTop).pending = s.pending := rfl
@[simp] theorem State.dropTop_clock (s : State) : (s.dropTop).clock = s.clock := rfl
@[simp] theorem State.dropTop_draws (s : State) : (s.dropTop).draws = s.draws := rfl
@[simp] theorem State.dropTop_result (s : State) : (s.dropTop).result = s.result := rfl
@[simp] theorem State.dropTop_events (s : State) : (s.dropTop).events = s.events := rfl

/-! ### `State.advancePC` -/

@[simp] theorem State.advancePC_mem (s : State) : (s.advancePC).mem = s.mem := rfl
@[simp] theorem State.advancePC_V (s : State) : (s.advancePC).V = s.V := rfl
@[simp] theorem State.advancePC_I (s : State) : (s.advancePC).I = s.I := rfl
@[simp] theorem State.advancePC_PC (s : State) : (s.advancePC).PC = s.PC + 2 := rfl
@[simp] theorem State.advancePC_stack (s : State) : (s.advancePC).stack = s.stack := rfl
@[simp] theorem State.advancePC_SP (s : State) : (s.advancePC).SP = s.SP := rfl
@[simp] theorem State.advancePC_DT (s : State) : (s.advancePC).DT = s.DT := rfl
@[simp] theorem State.advancePC_ST (s : State) : (s.advancePC).ST = s.ST := rfl
@[simp] theorem State.advancePC_sounding (s : State) : (s.advancePC).sounding = s.sounding := rfl
@[simp] theorem State.advancePC_key (s : State) : (s.advancePC).key = s.key := rfl
@[simp] theorem State.advancePC_stamp (s : State) : (s.advancePC).stamp = s.stamp := rfl
@[simp] theorem State.advancePC_FB (s : State) : (s.advancePC).FB = s.FB := rfl
@[simp] theorem State.advancePC_dirty (s : State) : (s.advancePC).dirty = s.dirty := rfl
@[simp] theorem State.advancePC_running (s : State) : (s.advancePC).running = s.running := rfl
@[simp] theorem State.advancePC_params (s : State) : (s.advancePC).params = s.params := rfl
@[simp] theorem State.advancePC_rnd (s : State) : (s.advancePC).rnd = s.rnd := rfl
@[simp] theorem State.advancePC_pending (s : State) : (s.advancePC).pending = s.pending := rfl
@[simp] theorem State.advancePC_clock (s : State) : (s.advancePC).clock = s.clock := rfl
@[simp] theorem State.advancePC_draws (s : State) : (s.advancePC).draws = s.draws := rfl
@[simp] theorem State.advancePC_result (s : State) : (s.advancePC).result = s.result := rfl
@[simp] theorem State.advancePC_events (s : State) : (s.advancePC).events = s.events := rfl

/-! ### `State.begin` -/

@[simp] theorem State.begin_mem (s : State) : (s.begin).mem = s.mem := rfl
@[simp] theorem State.begin_V (s : State) : (s.begin).V = s.V := rfl
@[simp] theorem State.begin_I (s : State) : (s.begin).I = s.I := rfl
@[simp] theorem State.begin_PC (s : State) : (s.begin).PC = s.PC := rfl
@[simp] theorem State.begin_stack (s : State) : (s.begin).stack = s.stack := rfl
@[simp] theorem State.begin_SP (s : State) : (s.begin).SP = s.SP := rfl
@[simp] theorem State.begin_DT (s : State) : (s.begin).DT = s.DT := rfl
@[simp] theorem State.begin_ST (s : State) : (s.begin).ST = s.ST := rfl
@[simp] theorem State.begin_sounding (s : State) : (s.begin).sounding = s.sounding := rfl
@[simp] theorem State.begin_key (s : State) : (s.begin).key = s.key := rfl
@[simp] theorem State.begin_stamp (s : State) : (s.begin).stamp = s.stamp := rfl
@[simp] theorem State.begin_FB (s : State) : (s.begin).FB = s.FB := rfl
@[simp] theorem State.begin_dirty (s : State) : (s.begin).dirty = s.dirty := rfl
@[simp] theorem State.begin_running (s : State) : (s.begin).running = s.running := rfl
@[simp] theorem State.begin_params (s : State) : (s.begin).params = s.params := rfl
@[simp] theorem State.begin_rnd (s : State) : (s.begin).rnd = s.rnd := rfl
@[simp] theorem State.begin_pending (s : State) : (s.begin).pending = s.pending := rfl
@[simp] theorem State.begin_clock (s : State) : (s.begin).clock = s.clock := rfl
@[simp] theorem State.begin_draws (s : State) : (s.begin).draws = s.draws := rfl
@[simp] theorem State.begin_result (s : State) : (s.begin).result = .ok := rfl
@[simp] theorem State.begin_events (s : State) : (s.begin).events = [] := rfl

/-! ### `State.takeInputs` -/

@[simp] theorem State.takeInputs_mem (s : State) (now : Nat) (rnd : Byte) : (s.takeInputs now rnd).mem = s.mem := rfl
@[simp] theorem State.takeInputs_V (s : State) (now : Nat) (rnd : Byte) : (s.takeInputs now rnd).V = s.V := rfl
@[simp] theorem State.takeInputs_I (s : State) (now : Nat) (rnd : Byte) : (s.takeInputs now rnd).I = s.I := rfl
@[simp] theorem State.takeInputs_PC (s : State) (now : Nat) (rnd : Byte) : (s.takeInputs now rnd).PC = s.PC := rfl
@[simp] theorem State.takeInputs_stack (s : State) (now : Nat) (rnd : Byte) : (s.takeInputs now rnd).stack = s.stack := rfl
@[simp] theorem State.takeInputs_SP (s : State) (now : Nat) (rnd : Byte) : (s.takeInputs now rnd).SP = s.SP := rfl
@[simp] theorem State.takeInputs_DT (s : State) (now : Nat) (rnd : Byte) : (s.takeInputs now rnd).DT = s.DT := rfl
@[simp] theorem State.takeInputs_ST (s : State) (now : Nat) (rnd : Byte) : (s.takeInputs now rnd).ST = s.ST := rfl
@[simp] theorem State.takeInputs_sounding (s : State) (now : Nat) (rnd : Byte) : (s.takeInputs now rnd).sounding = s.sounding := rfl
@[simp] theorem State.takeInputs_key (s : State) (now : Nat) (rnd : Byte) : (s.takeInputs now rnd).key = s.key := rfl
@[simp] theorem State.takeInputs_stamp (s : State) (now : Nat) (rnd : Byte) : (s.takeInputs now rnd).stamp = s.stamp := rfl
@[simp] theorem State.takeInputs_FB (s : State) (now : Nat) (rnd : Byte) : (s.takeInputs now rnd).FB = s.FB := rfl
@[simp] theorem State.takeInputs_dirty (s : State) (now : Nat) (rnd : Byte) : (s.takeInputs now rnd).dirty = s.dirty := rfl
@[simp] theorem State.takeInputs_running (s : State) (now : Nat) (rnd : Byte) : (s.takeInputs now rnd).running = s.running := rfl
@[simp] theorem State.takeInputs_params (s : State) (now : Nat) (rnd : Byte) : (s.takeInputs now rnd).params = s.params := rfl
@[simp] theorem State.takeInputs_rnd (s : State) (now : Nat) (rnd : Byte) : (s.takeInputs now rnd).rnd = rnd := rfl
@[simp] theorem State.takeInputs_pending (s : State) (now : Nat) (rnd : Byte) : (s.takeInputs now rnd).pending = s.pending := rfl
@[simp] theorem State.takeInputs_clock (s : State) (now : Nat) (rnd : Byte) : (s.takeInputs now rnd).clock = now := rfl
@[simp] theorem State.takeInputs_draws (s : State) (now : Nat) (rnd : Byte) : (s.takeInputs now rnd).draws = s.draws + 1 := rfl
@[simp] theorem State.takeInputs_result (s : State) (now : Nat) (rnd : Byte) : (s.takeInputs now rnd).result = s.result := rfl
@[simp] theorem State.takeInputs_events (s : State) (now : Nat) (rnd : Byte) : (s.takeInputs now rnd).events = s.events := rfl

/-! ### `State.sweep` -/

@[simp] theorem State.sweep_mem (s : State) (now : Nat) : (s.sweep now).mem = s.mem := rfl
@[simp] theorem State.sweep_V (s : State) (now : Nat) : (s.sweep now).V = s.V := rfl
@[simp] theorem State.sweep_I (s : State) (now : Nat) : (s.sweep now).I = s.I := rfl
@[simp] theorem State.sweep_PC (s : State) (now : Nat) : (s.sweep now).PC = s.PC := rfl
@[simp] theorem State.sweep_stack (s : State) (now : Nat) : (s.sweep now).stack = s.stack := rfl
@[simp] theorem State.sweep_SP (s : State) (now : Nat) : (s.sweep now).SP = s.SP := rfl
@[simp] theorem State.sweep_DT (s : State) (now : Nat) : (s.sweep now).DT = s.DT := rfl
@[simp] theorem State.sweep_ST (s : State) (now : Nat) : (s.sweep now).ST = s.ST := rfl
@[simp] theorem State.sweep_sounding (s : State) (now : Nat) : (s.sweep now).sounding = s.sounding := rfl
@[simp] theorem State.sweep_stamp (s : State) (now : Nat) : (s.sweep now).stamp = s.stamp := rfl
@[simp] theorem State.sweep_FB (s : State) (now : Nat) : (s.sweep now).FB = s.FB := rfl
@[simp] theorem State.sweep_dirty (s : State) (now : Nat) : (s.sweep now).dirty = s.dirty := rfl
@[simp] theorem State.sweep_running (s : State) (now : Nat) : (s.sweep now).running = s.running := rfl
@[simp] theorem State.sweep_params (s : State) (now : Nat) : (s.sweep now).params = s.params := rfl
@[simp] theorem State.sweep_rnd (s : State) (now : Nat) : (s.sweep now).rnd = s.rnd := rfl
@[simp] theorem State.sweep_pending (s : State) (now : Nat) : (s.sweep now).pending = s.pending := rfl
@[simp] theorem State.sweep_clock (s : State) (now : Nat) : (s.sweep now).clock = s.clock := rfl
@[simp] theorem State.sweep_draws (s : State) (now : Nat) : (s.sweep now).draws = s.draws := rfl
@[simp] theorem State.sweep_result (s : State) (now : Nat) : (s.sweep now).result = s.result := rfl
@[simp] theorem State.sweep_events (s : State) (now : Nat) : (s.sweep now).events = s.events := rfl

/-! ### `State.flush` -/

@[simp] theorem State.flush_mem (s : State) : (s.flush).mem = s.mem := rfl
@[simp] theorem State.flush_V (s : State) : (s.flush).V = s.V := rfl
@[simp] theorem State.flush_I (s : State) : (s.flush).I = s.I := rfl
@[simp] theorem State.flush_PC (s : State) : (s.flush).PC = s.PC := rfl
@[simp] theorem State.flush_stack (s : State) : (s.flush).stack = s.stack := rfl
@[simp] theorem State.flush_SP (s : State) : (s.flush).SP = s.SP := rfl
@[simp] theorem State.flush_DT (s : State) : (s.flush).DT = s.DT := rfl
@[simp] theorem State.flush_ST (s : State) : (s.flush).ST = s.ST := rfl
@[simp] theorem State.flush_sounding (s : State) : (s.flush).sounding = s.sounding := rfl
@[simp] theorem State.flush_key (s : State) : (s.flush).key = s.key := rfl
@[simp] theorem State.flush_stamp (s : State) : (s.flush).stamp = s.stamp := rfl
@[simp] theorem State.flush_FB (s : State) : (s.flush).FB = s.FB := rfl
@[simp] theorem State.flush_dirty (s : State) : (s.flush).dirty = false := rfl
@[simp] theorem State.flush_running (s : State) : (s.flush).running = s.running := rfl
@[simp] theorem State.flush_params (s : State) : (s.flush).params = s.params := rfl
@[simp] theorem State.flush_rnd (s : State) : (s.flush).rnd = s.rnd := rfl
@[simp] theorem State.flush_pending (s : State) : (s.flush).pending = s.pending := rfl
@[simp] theorem State.flush_clock (s : State) : (s.flush).clock = s.clock := rfl
@[simp] theorem State.flush_draws (s : State) : (s.flush).draws = s.draws := rfl
@[simp] theorem State.flush_result (s : State) : (s.flush).result = s.result := rfl
@[simp] theorem State.flush_events (s : State) : (s.flush).events = s.events ++ s.pixelEvents := rfl

/-! ### `State.start` -/

@[simp] theorem State.start_mem (s : State) : (s.start).mem = s.mem := rfl
@[simp] theorem State.start_V (s : State) : (s.start).V = s.V := rfl
@[simp] theorem State.start_I (s : State) : (s.start).I = s.I := rfl
@[simp] theorem State.start_PC (s : State) : (s.start).PC = s.PC := rfl
@[simp] theorem State.start_stack (s : State) : (s.start).stack = s.stack := rfl
@[simp] theorem State.start_SP (s : State) : (s.start).SP = s.SP := rfl
@[simp] theorem State.start_DT (s : State) : (s.start).DT = s.DT := rfl
@[simp] theorem State.start_ST (s : State) : (s.start).ST = s.ST := rfl
@[simp] theorem State.start_sounding (s : State) : (s.start).sounding = s.sounding := rfl
@[simp] theorem State.start_key (s : State) : (s.start).key = s.key := rfl
@[simp] theorem State.start_stamp (s : State) : (s.start).stamp = s.stamp := rfl
@[simp] theorem State.start_FB (s : State) : (s.start).FB = s.FB := rfl
@[simp] theorem State.start_dirty (s : State) : (s.start).dirty = s.dirty := rfl
@[simp] theorem State.start_running (s : State) : (s.start).running = true := rfl
@[simp] theorem State.start_params (s : State) : (s.start).params = s.params := rfl
@[simp] theorem State.start_rnd (s : State) : (s.start).rnd = s.rnd := rfl
@[simp] theorem State.start_pending (s : State) : (s.start).pending = s.pending := rfl
@[simp] theorem State.start_clock (s : State) : (s.start).clock = s.clock := rfl
@[simp] theorem State.start_draws (s : State) : (s.start).draws = s.draws := rfl
@[simp] theorem State.start_result (s : State) : (s.start).result = s.result := rfl
@[simp] theorem State.start_events (s : State) : (s.start).events = s.events := rfl

/-! ### `State.stop` -/

@[simp] theorem State.stop_mem (s : State) : (s.stop).mem = s.mem := rfl
@[simp] theorem State.stop_V (s : State) : (s.stop).V = s.V := rfl
@[simp] theorem State.stop_I (s : State) : (s.stop).I = s.I := rfl
@[simp] theorem State.stop_PC (s : State) : (s.stop).PC = s.PC := rfl
@[simp] theorem State.stop_stack (s : State) : (s.stop).stack = s.stack := rfl
@[simp] theorem State.stop_SP (s : State) : (s.stop).SP = s.SP := rfl
@[simp] theorem State.stop_DT (s : State) : (s.stop).DT = s.DT := rfl
@[simp] theorem State.stop_ST (s : State) : (s.stop).ST = s.ST := rfl
@[simp] theorem State.stop_sounding (s : State) : (s.stop).sounding = s.sounding := rfl
@[simp] theorem State.stop_key (s : State) : (s.stop).key = s.key := rfl
@[simp] theorem State.stop_stamp (s : State) : (s.stop).stamp = s.stamp := rfl
@[simp] theorem State.stop_FB (s : State) : (s.stop).FB = s.FB := rfl
@[simp] theorem State.stop_dirty (s : State) : (s.stop).dirty = s.dirty := rfl
@[simp] theorem State.stop_running (s : State) : (s.stop).running = false := rfl
@[simp] theorem State.stop_params (s : State) : (s.stop).params = s.params := rfl
@[simp] theorem State.stop_rnd (s : State) : (s.stop).rnd = s.rnd := rfl
@[simp] theorem State.stop_pending (s : State) : (s.stop).pending = s.pending := rfl
@[simp] theorem State.stop_clock (s : State) : (s.stop).clock = s.clock := rfl
@[simp] theorem State.stop_draws (s : State) : (s.stop).draws = s.draws := rfl
@[simp] theorem State.stop_result (s : State) : (s.stop).result = s.result := rfl
@[simp] theorem State.stop_events (s : State) : (s.stop).events = s.events := rfl

/-! ### `State.dequeue` -/

@[simp] theorem State.dequeue_mem (s : State) : (s.dequeue).mem = s.mem := rfl
@[simp] theorem State.dequeue_V (s : State) : (s.dequeue).V = s.V := rfl
@[simp] theorem State.dequeue_I (s : State) : (s.dequeue).I = s.I := rfl
@[simp] theorem State.dequeue_PC (s : State) : (s.dequeue).PC = s.PC := rfl
@[simp] theorem State.dequeue_stack (s : State) : (s.dequeue).stack = s.stack := rfl
@[simp] theorem State.dequeue_SP (s : State) : (s.dequeue).SP = s.SP := rfl
@[simp] theorem State.dequeue_DT (s : State) : (s.dequeue).DT = s.DT := rfl
@[simp] theorem State.dequeue_ST (s : State) : (s.dequeue).ST = s.ST := rfl
@[simp] theorem State.dequeue_sounding (s : State) : (s.dequeue).sounding = s.sounding := rfl
@[simp] theorem State.dequeue_key (s : State) : (s.dequeue).key = s.key := rfl
@[simp] theorem State.dequeue_stamp (s : State) : (s.dequeue).stamp = s.stamp := rfl
@[simp] theorem State.dequeue_FB (s : State) : (s.dequeue).FB = s.FB := rfl
@[simp] theorem State.dequeue_dirty (s : State) : (s.dequeue).dirty = s.dirty := rfl
@[simp] theorem State.dequeue_running (s : State) : (s.dequeue).running = s.running := rfl
@[simp] theorem State.dequeue_params (s : State) : (s.dequeue).params = s.params := rfl
@[simp] theorem State.dequeue_rnd (s : State) : (s.dequeue).rnd = s.rnd := rfl
@[simp] theorem State.dequeue_pending (s : State) : (s.dequeue).pending = s.pending.tail := rfl
@[simp] theorem State.dequeue_clock (s : State) : (s.dequeue).clock = s.clock := rfl
@[simp] theorem State.dequeue_draws (s : State) : (s.dequeue).draws = s.draws := rfl
@[simp] theorem State.dequeue_result (s : State) : (s.dequeue).result = s.result := rfl
@[simp] theorem State.dequeue_events (s : State) : (s.dequeue).events = s.events := rfl

/-! ### Fields after `pressKey`; its key and stamp stand in Laws/Ops.lean -/

@[simp] theorem State.pressKey_mem (s : State) (k : Fin 16) (now : Nat) : (s.pressKey k now).mem = s.mem := rfl
@[simp] theorem State.pressKey_V (s : State) (k : Fin 16) (now : Nat) : (s.pressKey k now).V = s.V := rfl
@[simp] theorem State.pressKey_I (s : State) (k : Fin 16) (now : Nat) : (s.pressKey k now).I = s.I := rfl
@[simp] theorem State.pressKey_PC (s : State) (k : Fin 16) (now : Nat) : (s.pressKey k now).PC = s.PC := rfl
@[simp] theorem State.pressKey_stack (s : State) (k : Fin 16) (now : Nat) : (s.pressKey k now).stack = s.stack := rfl
@[simp] theorem State.pressKey_SP (s : State) (k : Fin 16) (now : Nat) : (s.pressKey k now).SP = s.SP := rfl
@[simp] theorem State.pressKey_DT (s : State) (k : Fin 16) (now : Nat) : (s.pressKey k now).DT = s.DT := rfl
@[simp] theorem State.pressKey_ST (s : State) (k : Fin 16) (now : Nat) : (s.pressKey k now).ST = s.ST := rfl
@[simp] theorem State.pressKey_sounding (s : State) (k : Fin 16) (now : Nat) : (s.pressKey k now).sounding = s.sounding := rfl
@[simp] theorem State.pressKey_FB (s : State) (k : Fin 16) (now : Nat) : (s.pressKey k now).FB = s.FB := rfl
@[simp] theorem State.pressKey_dirty (s : State) (k : Fin 16) (now : Nat) : (s.pressKey k now).dirty = s.dirty := rfl
@[simp] theorem State.pressKey_running (s : State) (k : Fin 16) (now : Nat) : (s.pressKey k now).running = s.running := rfl
@[simp] theorem State.pressKey_params (s : State) (k : Fin 16) (now : Nat) : (s.pressKey k now).params = s.params := rfl
@[simp] theorem State.pressKey_rnd (s : State) (k : Fin 16) (now : Nat) : (s.pressKey k now).rnd = s.rnd := rfl
@[simp] theorem State.pressKey_pending (s : State) (k : Fin 16) (now : Nat) : (s.pressKey k now).pending = s.pending := rfl
@[simp] theorem State.pressKey_clock (s : State) (k : Fin 16) (now : Nat) : (s.pressKey k now).clock = now := rfl
@[simp] theorem State.pressKey_draws (s : State) (k : Fin 16) (now : Nat) : (s.pressKey k now).draws = s.draws := rfl
@[simp] theorem State.pressKey_result (s : State) (k : Fin 16) (now : Nat) : (s.pressKey k now).result = s.result := rfl
@[simp] theorem State.pressKey_events (s : State) (k : Fin 16) (now : Nat) : (s.pressKey k now).events = s.events := rfl

/-! ### Fields after `releaseKey`; its key stands in Laws/Ops.lean -/

@[simp] theorem State.releaseKey_mem (s : State) (k : Fin 16) : (s.releaseKey k).mem = s.mem := rfl
@[simp] theorem State.releaseKey_V (s : State) (k : Fin 16) : (s.releaseKey k).V = s.V := rfl
@[simp] theorem State.releaseKey_I (s : State) (k : Fin 16) : (s.releaseKey k).I = s.I := rfl
@[simp] theorem State.releaseKey_PC (s : State) (k : Fin 16) : (s.releaseKey k).PC = s.PC := rfl
@[simp] theorem State.releaseKey_stack (s : State) (k : Fin 16) : (s.releaseKey k).stack = s.stack := rfl
@[simp] theorem State.releaseKey_SP (s : State) (k : Fin 16) : (s.releaseKey k).SP = s.SP := rfl
@[simp] theorem State.releaseKey_DT (s : State) (k : Fin 16) : (s.releaseKey k).DT = s.DT := rfl
@[simp] theorem State.releaseKey_ST (s : State) (k : Fin 16) : (s.releaseKey k).ST = s.ST := rfl
@[simp] theorem State.releaseKey_sounding (s : State) (k : Fin 16) : (s.releaseKey k).sounding = s.sounding := rfl
@[simp] theorem State.releaseKey_stamp (s : State) (k : Fin 16) : (s.releaseKey k).stamp = s.stamp := rfl
@[simp] theorem State.releaseKey_FB (s : State) (k : Fin 16) : (s.releaseKey k).FB = s.FB := rfl
@[simp] theorem State.releaseKey_dirty (s : State) (k : Fin 16) : (s.releaseKey k).dirty = s.dirty := rfl
@[simp] theorem State.releaseKey_running (s : State) (k : Fin 16) : (s.releaseKey k).running = s.running := rfl
@[simp] theorem State.releaseKey_params (s : State) (k : Fin 16) : (s.releaseKey k).params = s.params := rfl
@[simp] theorem State.releaseKey_rnd (s : State) (k : Fin 16) : (s.releaseKey k).rnd = s.rnd := rfl
@[simp] theorem State.releaseKey_pending (s : State) (k : Fin 16) : (s.releaseKey k).pending = s.pending := rfl
@[simp] theorem State.releaseKey_clock (s : State) (k : Fin 16) : (s.releaseKey k).clock = s.clock := rfl
@[simp] theorem State.releaseKey_draws (s : State) (k : Fin 16) : (s.releaseKey k).draws = s.draws := rfl
@[simp] theorem State.releaseKey_result (s : State) (k : Fin 16) : (s.releaseKey k).result = s.result := rfl
@[simp] theorem State.releaseKey_events (s : State) (k : Fin 16) : (s.releaseKey k).events = s.events := rfl

/-! ### Fields after `invalidKey` -/

@[simp] theorem State.invalidKey_mem (s : State) (sym : Symbol) : (s.invalidKey sym).mem = s.mem := rfl
@[simp] theorem State.invalidKey_V (s : State) (sym : Symbol) : (s.invalidKey sym).V = s.V := rfl
@[simp] theorem State.invalidKey_I (s : State) (sym : Symbol) : (s.invalidKey sym).I = s.I := rfl
@[simp] theorem State.invalidKey_PC (s : State) (sym : Symbol) : (s.invalidKey sym).PC = s.PC := rfl
@[simp] theorem State.invalidKey_stack (s : State) (sym : Symbol) : (s.invalidKey sym).stack = s.stack := rfl
@[simp] theorem State.invalidKey_SP (s : State) (sym : Symbol) : (s.invalidKey sym).SP = s.SP := rfl
@[simp] theorem State.invalidKey_DT (s : State) (sym : Symbol) : (s.invalidKey sym).DT = s.DT := rfl
@[simp] theorem State.invalidKey_ST (s : State) (sym : Symbol) : (s.invalidKey sym).ST = s.ST := rfl
@[simp] theorem State.invalidKey_sounding (s : State) (sym : Symbol) : (s.invalidKey sym).sounding = s.sounding := rfl
@[simp] theorem State.invalidKey_key (s : State) (sym : Symbol) : (s.invalidKey sym).key = s.key := rfl
@[simp] theorem State.invalidKey_stamp (s : State) (sym : Symbol) : (s.invalidKey sym).stamp = s.stamp := rfl
@[simp] theorem State.invalidKey_FB (s : State) (sym : Symbol) : (s.invalidKey sym).FB = s.FB := rfl
@[simp] theorem State.invalidKey_dirty (s : State) (sym : Symbol) : (s.invalidKey sym).dirty = s.dirty := rfl
@[simp] theorem State.invalidKey_running (s : State) (sym : Symbol) : (s.invalidKey sym).running = s.running := rfl
@[simp] theorem State.invalidKey_params (s : State) (sym : Symbol) : (s.invalidKey sym).params = s.params := rfl
@[simp] theorem State.invalidKey_rnd (s : State) (sym : Symbol) : (s.invalidKey sym).rnd = s.rnd := rfl
@[simp] theorem State.invalidKey_pending (s : State) (sym : Symbol) : (s.invalidKey sym).pending = s.pending := rfl
@[simp] theorem State.invalidKey_clock (s : State) (sym : Symbol) : (s.invalidKey sym).clock = s.clock := rfl
@[simp] theorem State.invalidKey_draws (s : State) (sym : Symbol) : (s.invalidKey sym).draws = s.draws := rfl
@[simp] theorem State.invalidKey_result (s : State) (sym : Symbol) : (s.invalidKey sym).result = .invalid .unknownKeySymbol sym := rfl
@[simp] theorem State.invalidKey_events (s : State) (sym : Symbol) : (s.invalidKey sym).events = s.events := rfl

/-! ### Fields after `reportUnrecognized` -/

@[simp] theorem State.reportUnrecognized_mem (s : State) (w : Word) (a : Nat) : (s.reportUnrecognized w a).mem = s.mem := rfl
@[simp] theorem State.reportUnrecognized_V (s : State) (w : Word) (a : Nat) : (s.reportUnrecognized w a).V = s.V := rfl
@[simp] theorem State.reportUnrecognized_I (s : State) (w : Word) (a : Nat) : (s.reportUnrecognized w a).I = s.I := rfl
@[simp] theorem State.reportUnrecognized_PC (s : State) (w : Word) (a : Nat) : (s.reportUnrecognized w a).PC = s.PC := rfl
@[simp] theorem State.reportUnrecognized_stack (s : State) (w : Word) (a : Nat) : (s.reportUnrecognized w a).stack = s.stack := rfl
@[simp] theorem State.reportUnrecognized_SP (s : State) (w : Word) (a : Nat) : (s.reportUnrecognized w a).SP = s.SP := rfl
@[simp] theorem State.reportUnrecognized_DT (s : State) (w : Word) (a : Nat) : (s.reportUnrecognized w a).DT = s.DT := rfl
@[simp] theorem State.reportUnrecognized_ST (s : State) (w : Word) (a : Nat) : (s.reportUnrecognized w a).ST = s.ST := rfl
@[simp] theorem State.reportUnrecognized_sounding (s : State) (w : Word) (a : Nat) : (s.reportUnrecognized w a).sounding = s.sounding := rfl
@[simp] theorem State.reportUnrecognized_key (s : State) (w : Word) (a : Nat) : (s.reportUnrecognized w a).key = s.key := rfl
@[simp] theorem State.reportUnrecognized_stamp (s : State) (w : Word) (a : Nat) : (s.reportUnrecognized w a).stamp = s.stamp := rfl
@[simp] theorem State.reportUnrecognized_FB (s : State) (w : Word) (a : Nat) : (s.reportUnrecognized w a).FB = s.FB := rfl
@[simp] theorem State.reportUnrecognized_dirty (s : State) (w : Word) (a : Nat) : (s.reportUnrecognized w a).dirty = s.dirty := rfl
@[simp] theorem State.reportUnrecognized_running (s : State) (w : Word) (a : Nat) : (s.reportUnrecognized w a).running = s.running := rfl
@[simp] theorem State.reportUnrecognized_params (s : State) (w : Word) (a : Nat) : (s.reportUnrecognized w a).params = s.params := rfl
@[simp] theorem State.reportUnrecognized_rnd (s : State) (w : Word) (a : Nat) : (s.reportUnrecognized w a).rnd = s.rnd := rfl
@[simp] theorem State.reportUnrecognized_pending (s : State) (w : Word) (a : Nat) : (s.reportUnrecognized w a).pending = s.pending := rfl
@[simp] theorem State.reportUnrecognized_clock (s : State) (w : Word) (a : Nat) : (s.reportUnrecognized w a).clock = s.clock := rfl
@[simp] theorem State.reportUnrecognized_draws (s : State) (w : Word) (a : Nat) : (s.reportUnrecognized w a).draws = s.draws := rfl
@[simp] theorem State.reportUnrecognized_result (s : State) (w : Word) (a : Nat) : (s.reportUnrecognized w a).result = s.result := rfl
@[simp] theorem State.reportUnrecognized_events (s : State) (w : Word) (a : Nat) : (s.reportUnrecognized w a).events = s.events ++ [.diag .unrecognizedOpcode w a] := rfl

/-! ### Fields after `resetCommand` (R40) -/

@[simp] theorem State.resetCommand_mem (s : State) : (s.resetCommand).mem = [] := rfl
@[simp] theorem State.resetCommand_V (s : State) : (s.resetCommand).V = (State.construct s.params).V := rfl
@[simp] theorem State.resetCommand_I (s : State) : (s.resetCommand).I = 0 := rfl
@[simp] theorem State.resetCommand_PC (s : State) : (s.resetCommand).PC = 0x200 := rfl
@[simp] theorem State.resetCommand_stack (s : State) : (s.resetCommand).stack = (State.construct s.params).stack := rfl
@[simp] theorem State.resetCommand_SP (s : State) : (s.resetCommand).SP = 0 := rfl
@[simp] theorem State.resetCommand_DT (s : State) : (s.resetCommand).DT = 0 := rfl
@[simp] theorem State.resetCommand_ST (s : State) : (s.resetCommand).ST = 0 := rfl
@[simp] theorem State.resetCommand_sounding (s : State) : (s.resetCommand).sounding = false := rfl
@[simp] theorem State.resetCommand_key (s : State) : (s.resetCommand).key = (State.construct s.params).key := rfl
@[simp] theorem State.resetCommand_stamp (s : State) : (s.resetCommand).stamp = (State.construct s.params).stamp := rfl
@[simp] theorem State.resetCommand_FB (s : State) : (s.resetCommand).FB = (State.construct s.params).FB := rfl
@[simp] theorem State.resetCommand_dirty (s : State) : (s.resetCommand).dirty = false := rfl
@[simp] theorem State.resetCommand_running (s : State) : (s.resetCommand).running = false := rfl
@[simp] theorem State.resetCommand_params (s : State) : (s.resetCommand).params = s.params := rfl
@[simp] theorem State.resetCommand_rnd (s : State) : (s.resetCommand).rnd = s.rnd := rfl
@[simp] theorem State.resetCommand_pending (s : State) : (s.resetCommand).pending = s.pending := rfl
@[simp] theorem State.resetCommand_clock (s : State) : (s.resetCommand).clock = s.clock := rfl
@[simp] theorem State.resetCommand_draws (s : State) : (s.resetCommand).draws = s.draws := rfl
@[simp] theorem State.resetCommand_result (s : State) : (s.resetCommand).result = .ok := rfl
@[simp] theorem State.resetCommand_events (s : State) : (s.resetCommand).events = [] := rfl

end Sys2Proof.Machine
end

