-- ==== Sys2Proof/Laws/Memory.lean ====
section
/-! SUPPORT. The laws of the memory: what a read gives after a write, and that every memory operation keeps the canonical
form. -/

namespace Sys2Proof.Machine

theorem Memory.lookup_remove (m : Memory) (a b : Nat) :
    Memory.lookup (Memory.remove m a) b = if b = a then none else Memory.lookup m b := by
  induction m with
  | nil => simp [Memory.remove, Memory.lookup]
  | cons c m ih =>
    by_cases hc : c.1 = a
    · by_cases hb : b = a
      · simpa [Memory.remove, hc, hb] using ih
      · have : ¬ a = b := fun h => hb h.symm
        simp [Memory.remove, Memory.lookup, hc, ih, hb, this]
    · by_cases hb : b = a
      · rw [hb, if_pos rfl] at ih ⊢
        simp [Memory.remove, Memory.lookup, hc, ih]
      · simp [Memory.remove, Memory.lookup, hc, ih, hb]

theorem Memory.lookup_insert (m : Memory) (a b : Nat) (v : Byte) :
    Memory.lookup (Memory.insert m a v) b = if b = a then some v else Memory.lookup m b := by
  induction m with
  | nil => simp [Memory.insert, Memory.lookup, eq_comm]
  | cons c m ih =>
    unfold Memory.insert
    split
    · simp [Memory.lookup, eq_comm]
    · split
      · rename_i h; subst h
        by_cases hb : b = c.1
        · simp [Memory.lookup, hb]
        · have : ¬ c.1 = b := fun h => hb h.symm
          simp [Memory.lookup, hb, this]
      · rename_i h
        by_cases hb : b = a
        · rw [hb, if_pos rfl] at ih ⊢
          simp [Memory.lookup, ih, Ne.symm h]
        · simp [Memory.lookup, ih, hb]

/-- A read after a write: the byte written at its address, what was there everywhere else (R70). -/
theorem Memory.read_write (p : Params) (m : Memory) (a b : Nat) (v : Byte) :
    Memory.read p (Memory.write p m a v) b = if b = a then v else Memory.read p m b := by
  unfold Memory.read Memory.write
  split
  · rename_i h
    rw [Memory.lookup_remove]
    by_cases hb : b = a
    · simp [hb, h]
    · simp [hb]
  · rw [Memory.lookup_insert]
    by_cases hb : b = a <;> simp [hb]

theorem Memory.mem_remove {m : Memory} {a : Nat} {c : Host.Cell} (h : c ∈ Memory.remove m a) : c ∈ m := by
  induction m with
  | nil => simp [Memory.remove] at h
  | cons d m ih =>
    unfold Memory.remove at h
    split at h
    · exact List.mem_cons_of_mem _ (ih h)
    · rcases List.mem_cons.1 h with rfl | h
      · exact List.mem_cons_self
      · exact List.mem_cons_of_mem _ (ih h)

theorem Memory.mem_insert {m : Memory} {a : Nat} {v : Byte} {c : Host.Cell} (h : c ∈ Memory.insert m a v) :
    c = (a, v) ∨ c ∈ m := by
  induction m with
  | nil => simpa [Memory.insert] using h
  | cons d m ih =>
    unfold Memory.insert at h
    split at h
    · simpa using h
    · split at h
      · rcases List.mem_cons.1 h with h | h
        · exact .inl h
        · exact .inr (List.mem_cons_of_mem _ h)
      · rcases List.mem_cons.1 h with rfl | h
        · exact .inr List.mem_cons_self
        · exact (ih h).imp_right (List.mem_cons_of_mem _)

theorem Memory.remove_rising {m : Memory} (a : Nat) (h : m.Pairwise (fun c d => c.1 < d.1)) :
    (Memory.remove m a).Pairwise (fun c d => c.1 < d.1) := by
  induction m with
  | nil => exact h
  | cons c m ih =>
    obtain ⟨hc, hm⟩ := List.pairwise_cons.1 h
    unfold Memory.remove
    split
    · exact ih hm
    · exact List.pairwise_cons.2 ⟨fun d hd => hc d (Memory.mem_remove hd), ih hm⟩

theorem Memory.insert_rising {m : Memory} (a : Nat) (v : Byte) (h : m.Pairwise (fun c d => c.1 < d.1)) :
    (Memory.insert m a v).Pairwise (fun c d => c.1 < d.1) := by
  induction m with
  | nil => simp [Memory.insert]
  | cons c m ih =>
    obtain ⟨hc, hm⟩ := List.pairwise_cons.1 h
    unfold Memory.insert
    split
    · rename_i hlt
      refine List.pairwise_cons.2 ⟨fun d hd => ?_, h⟩
      rcases List.mem_cons.1 hd with rfl | hd
      · exact hlt
      · exact lt_trans hlt (hc d hd)
    · split
      · rename_i h'
        exact List.pairwise_cons.2 ⟨fun d hd => by rw [h']; exact hc d hd, hm⟩
      · refine List.pairwise_cons.2 ⟨fun d hd => ?_, ih hm⟩
        rcases Memory.mem_insert hd with rfl | hd
        · show c.1 < a; omega
        · exact hc d hd

/-- A write to an address of the memory keeps the canonical form. -/
theorem Memory.write_wf {p : Params} {m : Memory} {a : Nat} (v : Byte) (h : Memory.wf p m) (ha : a ≤ Config.lastAddr) :
    Memory.wf p (Memory.write p m a v) := by
  unfold Memory.write
  split
  · exact ⟨Memory.remove_rising a h.1, fun c hc => h.2 c (Memory.mem_remove hc)⟩
  · rename_i hv
    refine ⟨Memory.insert_rising a v h.1, fun c hc => ?_⟩
    rcases Memory.mem_insert hc with rfl | hc
    · exact ⟨ha, hv⟩
    · exact h.2 c hc

/-- Writing the value an unlisted address reads as leaves no entry for it. -/
theorem Memory.lookup_write_init (p : Params) (m : Memory) (a : Nat) :
    Memory.lookup (Memory.write p m a (initByte p a)) a = none := by
  simp [Memory.write, Memory.lookup_remove]

/-! ### On states -/

theorem State.readByte_congr {s t : State} (hm : t.mem = s.mem) (hp : t.params = s.params) (a : Nat) :
    t.readByte a = s.readByte a := by
  unfold State.readByte; rw [hm, hp]

/-- `MemWrite` changes the memory alone. -/
theorem State.writeByte_eq (s : State) (a : Nat) (v : Byte) :
    s.writeByte a v = { s with mem := (s.writeByte a v).mem } := by
  unfold State.writeByte; split <;> rfl

/-- A read after a `MemWrite` (R65, R66, R70). -/
theorem State.readByte_writeByte (s : State) (a b : Nat) (v : Byte) :
    (s.writeByte a v).readByte b = if b = a ∧ a ≤ Config.lastAddr then v else s.readByte b := by
  unfold State.writeByte
  by_cases h : a ≤ Config.lastAddr
  · simp only [h, if_true, and_true]
    exact Memory.read_write _ _ _ _ _
  · rw [if_neg h, if_neg (fun hb => h hb.2)]

/-- `MemWrite` keeps the canonical form, whatever the address. -/
theorem State.writeByte_memOk {s : State} (a : Nat) (v : Byte) (h : s.memOk) : (s.writeByte a v).memOk := by
  unfold State.writeByte
  split
  · exact Memory.write_wf v h ‹_›
  · exact h

/-- Writing bytes changes the memory alone. -/
theorem State.writeBytes_eq (vs : List Byte) : ∀ (s : State) (a : Nat),
    s.writeBytes a vs = { s with mem := (s.writeBytes a vs).mem } := by
  induction vs with
  | nil => exact fun s a => rfl
  | cons v vs ih =>
    intro s a
    unfold State.writeBytes
    have h1 := ih (s.writeByte a v) (a + 1)
    have h2 := State.writeByte_eq s a v
    generalize (s.writeByte a v).writeBytes (a + 1) vs = t at h1 ⊢
    rw [h1, h2]

/-- Writing bytes keeps the canonical form. -/
theorem State.writeBytes_memOk (vs : List Byte) : ∀ {s : State} (a : Nat), s.memOk → (s.writeBytes a vs).memOk := by
  induction vs with
  | nil => exact fun a h => h
  | cons v vs ih => exact fun a h => ih (a + 1) (State.writeByte_memOk a v h)

/-- A read after bytes were written from `a` on: the byte written there, what was there outside (R63, R66, R70). -/
theorem State.readByte_writeBytes (vs : List Byte) : ∀ (s : State) (a b : Nat),
    (s.writeBytes a vs).readByte b =
      if a ≤ b ∧ b < a + vs.length ∧ b ≤ Config.lastAddr then vs.getD (b - a) 0 else s.readByte b := by
  induction vs with
  | nil =>
    intro s a b
    have : ¬ (a ≤ b ∧ b < a + ([] : List Byte).length ∧ b ≤ Config.lastAddr) := by simp; omega
    rw [if_neg this]; rfl
  | cons v vs ih =>
    intro s a b
    show ((s.writeByte a v).writeBytes (a + 1) vs).readByte b = _
    rw [ih, State.readByte_writeByte]
    by_cases hab : b = a
    · subst hab
      simp
    · by_cases h : a + 1 ≤ b ∧ b < a + 1 + vs.length ∧ b ≤ Config.lastAddr
      · have h' : a ≤ b ∧ b < a + (v :: vs).length ∧ b ≤ Config.lastAddr := by
          simp only [List.length_cons]; omega
        rw [if_pos h, if_pos h']
        obtain ⟨k, hk⟩ : ∃ k, b - a = k + 1 := ⟨b - a - 1, by omega⟩
        have : b - (a + 1) = k := by omega
        rw [hk, this]; rfl
      · have h' : ¬ (a ≤ b ∧ b < a + (v :: vs).length ∧ b ≤ Config.lastAddr) := by
          simp only [List.length_cons]; omega
        rw [if_neg h, if_neg h']
        simp [hab]

end Sys2Proof.Machine
end

