-- ==== Sys2Proof/Laws/Ops.lean ====
section
/-! SUPPORT. What each shared operation over registers, bytes, the call stack and the fetch can do, said once. -/

namespace Sys2Proof.Machine

/-! ### General registers -/

/-- A register after a register write. -/
@[simp] theorem State.getV_setV (s : State) (r q : Reg) (v : Byte) :
    (s.setV r v).getV q = if q = r then v else s.getV q := by
  unfold State.getV State.setV
  by_cases h : q = r
  · subst h; simp
  · have : r.val ≠ q.val := fun h' => h (Fin.ext h'.symm)
    simp [h, this]

theorem State.getV_congr {s t : State} (h : t.V = s.V) (r : Reg) : t.getV r = s.getV r := by
  unfold State.getV; rw [h]

/-- A register after a result and a flag were written: the flag wins when both go to `VF` (R143). -/
theorem State.getV_setResultFlag (s : State) (x q : Reg) (r f : Byte) :
    (s.setResultFlag x r f).getV q = if q = vf then f else if q = x then r else s.getV q := by
  simp [State.setResultFlag]

/-- Writing a result and a flag changes general registers alone. -/
theorem State.setResultFlag_eq (s : State) (x : Reg) (r f : Byte) :
    s.setResultFlag x r f = { s with V := (s.setResultFlag x r f).V } := rfl

/-- Two register files are equal when every register is. -/
theorem State.V_ext {s t : State} (h : ∀ r, t.getV r = s.getV r) : t.V = s.V := by
  apply Vector.ext
  intro i hi
  exact h ⟨i, hi⟩

/-- A block of register writes changes general registers alone. -/
theorem State.setRegs_eq (vs : List Byte) : ∀ (s : State) (k : Nat),
    s.setRegs k vs = { s with V := (s.setRegs k vs).V } := by
  induction vs with
  | nil => exact fun s k => rfl
  | cons v vs ih =>
    intro s k
    have h := ih (s.setV (Fin.ofNat 16 k) v) (k + 1)
    show (s.setV (Fin.ofNat 16 k) v).setRegs (k + 1) vs =
      { s with V := ((s.setV (Fin.ofNat 16 k) v).setRegs (k + 1) vs).V }
    generalize (s.setV (Fin.ofNat 16 k) v).setRegs (k + 1) vs = t at h ⊢
    rw [h]; rfl

/-- A register after a block of register writes that fits the register file (R175). -/
theorem State.getV_setRegs (vs : List Byte) : ∀ (s : State) (k : Nat) (q : Reg), k + vs.length ≤ 16 →
    (s.setRegs k vs).getV q = if k ≤ q.val ∧ q.val < k + vs.length then vs.getD (q.val - k) 0 else s.getV q := by
  induction vs with
  | nil =>
    intro s k q _
    have : ¬ (k ≤ q.val ∧ q.val < k + ([] : List Byte).length) := by simp
    rw [if_neg this]; rfl
  | cons v vs ih =>
    intro s k q hk
    simp only [List.length_cons] at hk
    show ((s.setV (Fin.ofNat 16 k) v).setRegs (k + 1) vs).getV q = _
    rw [ih _ _ _ (by omega), State.getV_setV]
    have hval : (Fin.ofNat 16 k).val = k := Nat.mod_eq_of_lt (by omega)
    by_cases hq : q = Fin.ofNat 16 k
    · have hqk : q.val = k := by rw [hq]; exact hval
      rw [if_pos hq, if_neg (by omega), if_pos (by simp only [List.length_cons]; omega), hqk]
      simp
    · have hqk : q.val ≠ k := fun h => hq (Fin.ext (by rw [hval]; exact h))
      rw [if_neg hq]
      by_cases h : k + 1 ≤ q.val ∧ q.val < k + 1 + vs.length
      · rw [if_pos h, if_pos (by simp only [List.length_cons]; omega)]
        obtain ⟨j, hj⟩ : ∃ j, q.val - k = j + 1 := ⟨q.val - k - 1, by omega⟩
        have : q.val - (k + 1) = j := by omega
        rw [hj, this]; rfl
      · rw [if_neg h, if_neg (by simp only [List.length_cons]; omega)]

@[simp] theorem State.length_regsUpTo (s : State) (x : Reg) : (s.regsUpTo x).length = x.val + 1 := by
  have := x.isLt
  simp only [State.regsUpTo, List.length_take, Vector.length_toList]; omega

/-- Entry `j` of `V[0]`..`V[x]` is `V[j]`. -/
theorem State.regsUpTo_getD (s : State) (x : Reg) (j : Nat) (hj : j ≤ x.val) :
    (s.regsUpTo x).getD j 0 = s.getV ⟨j, Nat.lt_of_le_of_lt hj x.isLt⟩ := by
  have hl : j < (s.regsUpTo x).length := by rw [State.length_regsUpTo]; omega
  rw [List.getD_eq_getElem _ _ hl]
  simp [State.regsUpTo, State.getV]

/-! ### Bytes of memory -/

@[simp] theorem State.length_readBytes (s : State) (a n : Nat) : (s.readBytes a n).length = n := by
  simp [State.readBytes]

/-- Entry `j` of a block read is the byte at that offset (R63). -/
theorem State.readBytes_getD (s : State) (a n j : Nat) (hj : j < n) : (s.readBytes a n).getD j 0 = s.readByte (a + j) := by
  have hl : j < (s.readBytes a n).length := by simpa using hj
  rw [List.getD_eq_getElem _ _ hl]
  simp [State.readBytes]

/-- The whole range from `I` is in memory (R65, R66, R77). -/
@[simp] theorem State.rangeOk_iff (s : State) (len : Nat) :
    s.rangeOk len = true ↔ len = 0 ∨ s.I.toNat + len ≤ 4096 := by
  unfold State.rangeOk
  rw [Bool.or_eq_true, decide_eq_true_iff, decide_eq_true_iff]; rfl

@[simp] theorem State.canFetch_iff (s : State) : s.canFetch = true ↔ s.PC.toNat ≤ 4094 := by
  unfold State.canFetch
  rw [decide_eq_true_iff]; rfl

/-! ### Fields that block writes leave alone -/

@[simp] theorem State.writeByte_V (s : State) (a : Nat) (v : Byte) : (s.writeByte a v).V = s.V := by
  rw [State.writeByte_eq]
@[simp] theorem State.writeByte_I (s : State) (a : Nat) (v : Byte) : (s.writeByte a v).I = s.I := by
  rw [State.writeByte_eq]
@[simp] theorem State.writeByte_PC (s : State) (a : Nat) (v : Byte) : (s.writeByte a v).PC = s.PC := by
  rw [State.writeByte_eq]
@[simp] theorem State.writeByte_stack (s : State) (a : Nat) (v : Byte) : (s.writeByte a v).stack = s.stack := by
  rw [State.writeByte_eq]
@[simp] theorem State.writeByte_SP (s : State) (a : Nat) (v : Byte) : (s.writeByte a v).SP = s.SP := by
  rw [State.writeByte_eq]
@[simp] theorem State.writeByte_DT (s : State) (a : Nat) (v : Byte) : (s.writeByte a v).DT = s.DT := by
  rw [State.writeByte_eq]
@[simp] theorem State.writeByte_ST (s : State) (a : Nat) (v : Byte) : (s.writeByte a v).ST = s.ST := by
  rw [State.writeByte_eq]
@[simp] theorem State.writeByte_sounding (s : State) (a : Nat) (v : Byte) : (s.writeByte a v).sounding = s.sounding := by
  rw [State.writeByte_eq]
@[simp] theorem State.writeByte_key (s : State) (a : Nat) (v : Byte) : (s.writeByte a v).key = s.key := by
  rw [State.writeByte_eq]
@[simp] theorem State.writeByte_stamp (s : State) (a : Nat) (v : Byte) : (s.writeByte a v).stamp = s.stamp := by
  rw [State.writeByte_eq]
@[simp] theorem State.writeByte_FB (s : State) (a : Nat) (v : Byte) : (s.writeByte a v).FB = s.FB := by
  rw [State.writeByte_eq]
@[simp] theorem State.writeByte_dirty (s : State) (a : Nat) (v : Byte) : (s.writeByte a v).dirty = s.dirty := by
  rw [State.writeByte_eq]
@[simp] theorem State.writeByte_running (s : State) (a : Nat) (v : Byte) : (s.writeByte a v).running = s.running := by
  rw [State.writeByte_eq]
@[simp] theorem State.writeByte_params (s : State) (a : Nat) (v : Byte) : (s.writeByte a v).params = s.params := by
  rw [State.writeByte_eq]
@[simp] theorem State.writeByte_rnd (s : State) (a : Nat) (v : Byte) : (s.writeByte a v).rnd = s.rnd := by
  rw [State.writeByte_eq]
@[simp] theorem State.writeByte_pending (s : State) (a : Nat) (v : Byte) : (s.writeByte a v).pending = s.pending := by
  rw [State.writeByte_eq]
@[simp] theorem State.writeByte_clock (s : State) (a : Nat) (v : Byte) : (s.writeByte a v).clock = s.clock := by
  rw [State.writeByte_eq]
@[simp] theorem State.writeByte_draws (s : State) (a : Nat) (v : Byte) : (s.writeByte a v).draws = s.draws := by
  rw [State.writeByte_eq]
@[simp] theorem State.writeByte_result (s : State) (a : Nat) (v : Byte) : (s.writeByte a v).result = s.result := by
  rw [State.writeByte_eq]
@[simp] theorem State.writeByte_events (s : State) (a : Nat) (v : Byte) : (s.writeByte a v).events = s.events := by
  rw [State.writeByte_eq]
@[simp] theorem State.writeBytes_V (s : State) (a : Nat) (vs : List Byte) : (s.writeBytes a vs).V = s.V := by
  rw [State.writeBytes_eq]
@[simp] theorem State.writeBytes_I (s : State) (a : Nat) (vs : List Byte) : (s.writeBytes a vs).I = s.I := by
  rw [State.writeBytes_eq]
@[simp] theorem State.writeBytes_PC (s : State) (a : Nat) (vs : List Byte) : (s.writeBytes a vs).PC = s.PC := by
  rw [State.writeBytes_eq]
@[simp] theorem State.writeBytes_stack (s : State) (a : Nat) (vs : List Byte) : (s.writeBytes a vs).stack = s.stack := by
  rw [State.writeBytes_eq]
@[simp] theorem State.writeBytes_SP (s : State) (a : Nat) (vs : List Byte) : (s.writeBytes a vs).SP = s.SP := by
  rw [State.writeBytes_eq]
@[simp] theorem State.writeBytes_DT (s : State) (a : Nat) (vs : List Byte) : (s.writeBytes a vs).DT = s.DT := by
  rw [State.writeBytes_eq]
@[simp] theorem State.writeBytes_ST (s : State) (a : Nat) (vs : List Byte) : (s.writeBytes a vs).ST = s.ST := by
  rw [State.writeBytes_eq]
@[simp] theorem State.writeBytes_sounding (s : State) (a : Nat) (vs : List Byte) : (s.writeBytes a vs).sounding = s.sounding := by
  rw [State.writeBytes_eq]
@[simp] theorem State.writeBytes_key (s : State) (a : Nat) (vs : List Byte) : (s.writeBytes a vs).key = s.key := by
  rw [State.writeBytes_eq]
@[simp] theorem State.writeBytes_stamp (s : State) (a : Nat) (vs : List Byte) : (s.writeBytes a vs).stamp = s.stamp := by
  rw [State.writeBytes_eq]
@[simp] theorem State.writeBytes_FB (s : State) (a : Nat) (vs : List Byte) : (s.writeBytes a vs).FB = s.FB := by
  rw [State.writeBytes_eq]
@[simp] theorem State.writeBytes_dirty (s : State) (a : Nat) (vs : List Byte) : (s.writeBytes a vs).dirty = s.dirty := by
  rw [State.writeBytes_eq]
@[simp] theorem State.writeBytes_running (s : State) (a : Nat) (vs : List Byte) : (s.writeBytes a vs).running = s.running := by
  rw [State.writeBytes_eq]
@[simp] theorem State.writeBytes_params (s : State) (a : Nat) (vs : List Byte) : (s.writeBytes a vs).params = s.params := by
  rw [State.writeBytes_eq]
@[simp] theorem State.writeBytes_rnd (s : State) (a : Nat) (vs : List Byte) : (s.writeBytes a vs).rnd = s.rnd := by
  rw [State.writeBytes_eq]
@[simp] theorem State.writeBytes_pending (s : State) (a : Nat) (vs : List Byte) : (s.writeBytes a vs).pending = s.pending := by
  rw [State.writeBytes_eq]
@[simp] theorem State.writeBytes_clock (s : State) (a : Nat) (vs : List Byte) : (s.writeBytes a vs).clock = s.clock := by
  rw [State.writeBytes_eq]
@[simp] theorem State.writeBytes_draws (s : State) (a : Nat) (vs : List Byte) : (s.writeBytes a vs).draws = s.draws := by
  rw [State.writeBytes_eq]
@[simp] theorem State.writeBytes_result (s : State) (a : Nat) (vs : List Byte) : (s.writeBytes a vs).result = s.result := by
  rw [State.writeBytes_eq]
@[simp] theorem State.writeBytes_events (s : State) (a : Nat) (vs : List Byte) : (s.writeBytes a vs).events = s.events := by
  rw [State.writeBytes_eq]
@[simp] theorem State.setRegs_mem (s : State) (k : Nat) (vs : List Byte) : (s.setRegs k vs).mem = s.mem := by
  rw [State.setRegs_eq]
@[simp] theorem State.setRegs_I (s : State) (k : Nat) (vs : List Byte) : (s.setRegs k vs).I = s.I := by
  rw [State.setRegs_eq]
@[simp] theorem State.setRegs_PC (s : State) (k : Nat) (vs : List Byte) : (s.setRegs k vs).PC = s.PC := by
  rw [State.setRegs_eq]
@[simp] theorem State.setRegs_stack (s : State) (k : Nat) (vs : List Byte) : (s.setRegs k vs).stack = s.stack := by
  rw [State.setRegs_eq]
@[simp] theorem State.setRegs_SP (s : State) (k : Nat) (vs : List Byte) : (s.setRegs k vs).SP = s.SP := by
  rw [State.setRegs_eq]
@[simp] theorem State.setRegs_DT (s : State) (k : Nat) (vs : List Byte) : (s.setRegs k vs).DT = s.DT := by
  rw [State.setRegs_eq]
@[simp] theorem State.setRegs_ST (s : State) (k : Nat) (vs : List Byte) : (s.setRegs k vs).ST = s.ST := by
  rw [State.setRegs_eq]
@[simp] theorem State.setRegs_sounding (s : State) (k : Nat) (vs : List Byte) : (s.setRegs k vs).sounding = s.sounding := by
  rw [State.setRegs_eq]
@[simp] theorem State.setRegs_key (s : State) (k : Nat) (vs : List Byte) : (s.setRegs k vs).key = s.key := by
  rw [State.setRegs_eq]
@[simp] theorem State.setRegs_stamp (s : State) (k : Nat) (vs : List Byte) : (s.setRegs k vs).stamp = s.stamp := by
  rw [State.setRegs_eq]
@[simp] theorem State.setRegs_FB (s : State) (k : Nat) (vs : List Byte) : (s.setRegs k vs).FB = s.FB := by
  rw [State.setRegs_eq]
@[simp] theorem State.setRegs_dirty (s : State) (k : Nat) (vs : List Byte) : (s.setRegs k vs).dirty = s.dirty := by
  rw [State.setRegs_eq]
@[simp] theorem State.setRegs_running (s : State) (k : Nat) (vs : List Byte) : (s.setRegs k vs).running = s.running := by
  rw [State.setRegs_eq]
@[simp] theorem State.setRegs_params (s : State) (k : Nat) (vs : List Byte) : (s.setRegs k vs).params = s.params := by
  rw [State.setRegs_eq]
@[simp] theorem State.setRegs_rnd (s : State) (k : Nat) (vs : List Byte) : (s.setRegs k vs).rnd = s.rnd := by
  rw [State.setRegs_eq]
@[simp] theorem State.setRegs_pending (s : State) (k : Nat) (vs : List Byte) : (s.setRegs k vs).pending = s.pending := by
  rw [State.setRegs_eq]
@[simp] theorem State.setRegs_clock (s : State) (k : Nat) (vs : List Byte) : (s.setRegs k vs).clock = s.clock := by
  rw [State.setRegs_eq]
@[simp] theorem State.setRegs_draws (s : State) (k : Nat) (vs : List Byte) : (s.setRegs k vs).draws = s.draws := by
  rw [State.setRegs_eq]
@[simp] theorem State.setRegs_result (s : State) (k : Nat) (vs : List Byte) : (s.setRegs k vs).result = s.result := by
  rw [State.setRegs_eq]
@[simp] theorem State.setRegs_events (s : State) (k : Nat) (vs : List Byte) : (s.setRegs k vs).events = s.events := by
  rw [State.setRegs_eq]

/-! ### Faults and the call stack -/

@[simp] theorem State.faulted_takeFault (s : State) (c : Cause) (n : Nat) : (s.takeFault c n).faulted = true := rfl

/-- A command faulted exactly when its result says so. -/
theorem State.faulted_iff (s : State) : s.faulted = true ↔ ∃ c n, s.result = .fault c n := by
  unfold State.faulted
  cases h : s.result <;> simp

theorem State.faulted_congr {s t : State} (h : t.result = s.result) : t.faulted = s.faulted := by
  unfold State.faulted; rw [h]

/-- A push with room (R121). -/
theorem State.push_room (s : State) (v : Word) (h : s.SP.val < 16) :
    s.push v = { s with stack := s.stack.set s.SP.val v h, SP := ⟨s.SP.val + 1, Nat.succ_lt_succ h⟩ } := by
  simp [State.push, h]

/-- There is no top exactly when the stack is empty (R26). -/
theorem State.stackTop_none (s : State) : s.stackTop = none ↔ s.SP.val = 0 := by
  have := s.SP.isLt
  unfold State.stackTop
  split
  · simp [*]
  · rename_i h
    simp [h]; omega

/-- The top of a stack that is not empty is the entry below `SP` (R122). -/
theorem State.stackTop_some (s : State) (h : s.SP.val ≠ 0) :
    s.stackTop = some (s.stack[s.SP.val - 1]'(by have := s.SP.isLt; omega)) := by
  have := s.SP.isLt
  have hlt : s.SP.val - 1 < 16 := by omega
  simp [State.stackTop, h, Vector.getElem?_eq_getElem hlt]

/-! ### Keys and skips -/

/-- The key a code names (R232, R233). -/
theorem State.keyAt_some (s : State) (v : Byte) (h : v.toNat < 16) : s.keyAt v = some s.key[v.toNat] := by
  simp [State.keyAt, h]

/-- A code above 15 names none (R235). -/
theorem State.keyAt_none (s : State) (v : Byte) (h : 15 < v.toNat) : s.keyAt v = none := by
  simp [State.keyAt]; omega

/-- Every key after the sweep (R229). -/
theorem State.sweep_key (s : State) (now : Nat) (k : Fin 16) :
    (s.sweep now).key[k.val] = (s.key[k.val] && !decide (s.params.debounceMs < now - s.stamp[k.val])) := by
  fin_cases k <;> rfl

/-- Every key after one was pressed (R223). -/
theorem State.pressKey_key (s : State) (k : Fin 16) (now : Nat) (j : Fin 16) :
    (s.pressKey k now).key[j.val] = if j = k then true else s.key[j.val] := by
  simp only [State.pressKey, Vector.getElem_set, Fin.ext_iff, eq_comm (a := k.val)]

/-- Every stamp after a key was pressed (R223). -/
theorem State.pressKey_stamp (s : State) (k : Fin 16) (now : Nat) (j : Fin 16) :
    (s.pressKey k now).stamp[j.val] = if j = k then now else s.stamp[j.val] := by
  simp only [State.pressKey, Vector.getElem_set, Fin.ext_iff, eq_comm (a := k.val)]

/-- Every key after one was released (R226). -/
theorem State.releaseKey_key (s : State) (k : Fin 16) (j : Fin 16) :
    (s.releaseKey k).key[j.val] = if j = k then false else s.key[j.val] := by
  simp only [State.releaseKey, Vector.getElem_set, Fin.ext_iff, eq_comm (a := k.val)]

/-- A skip changes `PC` alone. -/
theorem State.skipIf_eq (s : State) (b : Bool) : s.skipIf b = { s with PC := if b then s.PC + 2 else s.PC } := by
  cases b <;> rfl

/-! ### Fields that a push, a skip and a flagged result leave alone -/

@[simp] theorem State.push_mem (s : State) (v : Word) : (s.push v).mem = s.mem := by
  unfold State.push; split <;> rfl
@[simp] theorem State.push_V (s : State) (v : Word) : (s.push v).V = s.V := by
  unfold State.push; split <;> rfl
@[simp] theorem State.push_I (s : State) (v : Word) : (s.push v).I = s.I := by
  unfold State.push; split <;> rfl
@[simp] theorem State.push_PC (s : State) (v : Word) : (s.push v).PC = s.PC := by
  unfold State.push; split <;> rfl
@[simp] theorem State.push_DT (s : State) (v : Word) : (s.push v).DT = s.DT := by
  unfold State.push; split <;> rfl
@[simp] theorem State.push_ST (s : State) (v : Word) : (s.push v).ST = s.ST := by
  unfold State.push; split <;> rfl
@[simp] theorem State.push_sounding (s : State) (v : Word) : (s.push v).sounding = s.sounding := by
  unfold State.push; split <;> rfl
@[simp] theorem State.push_key (s : State) (v : Word) : (s.push v).key = s.key := by
  unfold State.push; split <;> rfl
@[simp] theorem State.push_stamp (s : State) (v : Word) : (s.push v).stamp = s.stamp := by
  unfold State.push; split <;> rfl
@[simp] theorem State.push_FB (s : State) (v : Word) : (s.push v).FB = s.FB := by
  unfold State.push; split <;> rfl
@[simp] theorem State.push_dirty (s : State) (v : Word) : (s.push v).dirty = s.dirty := by
  unfold State.push; split <;> rfl
@[simp] theorem State.push_running (s : State) (v : Word) : (s.push v).running = s.running := by
  unfold State.push; split <;> rfl
@[simp] theorem State.push_params (s : State) (v : Word) : (s.push v).params = s.params := by
  unfold State.push; split <;> rfl
@[simp] theorem State.push_rnd (s : State) (v : Word) : (s.push v).rnd = s.rnd := by
  unfold State.push; split <;> rfl
@[simp] theorem State.push_pending (s : State) (v : Word) : (s.push v).pending = s.pending := by
  unfold State.push; split <;> rfl
@[simp] theorem State.push_clock (s : State) (v : Word) : (s.push v).clock = s.clock := by
  unfold State.push; split <;> rfl
@[simp] theorem State.push_draws (s : State) (v : Word) : (s.push v).draws = s.draws := by
  unfold State.push; split <;> rfl
@[simp] theorem State.push_events (s : State) (v : Word) : (s.push v).events = s.events := by
  unfold State.push; split <;> rfl
@[simp] theorem State.skipIf_mem (s : State) (b : Bool) : (s.skipIf b).mem = s.mem := by
  rw [State.skipIf_eq]
@[simp] theorem State.skipIf_V (s : State) (b : Bool) : (s.skipIf b).V = s.V := by
  rw [State.skipIf_eq]
@[simp] theorem State.skipIf_I (s : State) (b : Bool) : (s.skipIf b).I = s.I := by
  rw [State.skipIf_eq]
@[simp] theorem State.skipIf_stack (s : State) (b : Bool) : (s.skipIf b).stack = s.stack := by
  rw [State.skipIf_eq]
@[simp] theorem State.skipIf_SP (s : State) (b : Bool) : (s.skipIf b).SP = s.SP := by
  rw [State.skipIf_eq]
@[simp] theorem State.skipIf_DT (s : State) (b : Bool) : (s.skipIf b).DT = s.DT := by
  rw [State.skipIf_eq]
@[simp] theorem State.skipIf_ST (s : State) (b : Bool) : (s.skipIf b).ST = s.ST := by
  rw [State.skipIf_eq]
@[simp] theorem State.skipIf_sounding (s : State) (b : Bool) : (s.skipIf b).sounding = s.sounding := by
  rw [State.skipIf_eq]
@[simp] theorem State.skipIf_key (s : State) (b : Bool) : (s.skipIf b).key = s.key := by
  rw [State.skipIf_eq]
@[simp] theorem State.skipIf_stamp (s : State) (b : Bool) : (s.skipIf b).stamp = s.stamp := by
  rw [State.skipIf_eq]
@[simp] theorem State.skipIf_FB (s : State) (b : Bool) : (s.skipIf b).FB = s.FB := by
  rw [State.skipIf_eq]
@[simp] theorem State.skipIf_dirty (s : State) (b : Bool) : (s.skipIf b).dirty = s.dirty := by
  rw [State.skipIf_eq]
@[simp] theorem State.skipIf_running (s : State) (b : Bool) : (s.skipIf b).running = s.running := by
  rw [State.skipIf_eq]
@[simp] theorem State.skipIf_params (s : State) (b : Bool) : (s.skipIf b).params = s.params := by
  rw [State.skipIf_eq]
@[simp] theorem State.skipIf_rnd (s : State) (b : Bool) : (s.skipIf b).rnd = s.rnd := by
  rw [State.skipIf_eq]
@[simp] theorem State.skipIf_pending (s : State) (b : Bool) : (s.skipIf b).pending = s.pending := by
  rw [State.skipIf_eq]
@[simp] theorem State.skipIf_clock (s : State) (b : Bool) : (s.skipIf b).clock = s.clock := by
  rw [State.skipIf_eq]
@[simp] theorem State.skipIf_draws (s : State) (b : Bool) : (s.skipIf b).draws = s.draws := by
  rw [State.skipIf_eq]
@[simp] theorem State.skipIf_result (s : State) (b : Bool) : (s.skipIf b).result = s.result := by
  rw [State.skipIf_eq]
@[simp] theorem State.skipIf_events (s : State) (b : Bool) : (s.skipIf b).events = s.events := by
  rw [State.skipIf_eq]
@[simp] theorem State.setResultFlag_mem (s : State) (x : Reg) (r f : Byte) : (s.setResultFlag x r f).mem = s.mem := by
  rfl
@[simp] theorem State.setResultFlag_I (s : State) (x : Reg) (r f : Byte) : (s.setResultFlag x r f).I = s.I := by
  rfl
@[simp] theorem State.setResultFlag_PC (s : State) (x : Reg) (r f : Byte) : (s.setResultFlag x r f).PC = s.PC := by
  rfl
@[simp] theorem State.setResultFlag_stack (s : State) (x : Reg) (r f : Byte) : (s.setResultFlag x r f).stack = s.stack := by
  rfl
@[simp] theorem State.setResultFlag_SP (s : State) (x : Reg) (r f : Byte) : (s.setResultFlag x r f).SP = s.SP := by
  rfl
@[simp] theorem State.setResultFlag_DT (s : State) (x : Reg) (r f : Byte) : (s.setResultFlag x r f).DT = s.DT := by
  rfl
@[simp] theorem State.setResultFlag_ST (s : State) (x : Reg) (r f : Byte) : (s.setResultFlag x r f).ST = s.ST := by
  rfl
@[simp] theorem State.setResultFlag_sounding (s : State) (x : Reg) (r f : Byte) : (s.setResultFlag x r f).sounding = s.sounding := by
  rfl
@[simp] theorem State.setResultFlag_key (s : State) (x : Reg) (r f : Byte) : (s.setResultFlag x r f).key = s.key := by
  rfl
@[simp] theorem State.setResultFlag_stamp (s : State) (x : Reg) (r f : Byte) : (s.setResultFlag x r f).stamp = s.stamp := by
  rfl
@[simp] theorem State.setResultFlag_FB (s : State) (x : Reg) (r f : Byte) : (s.setResultFlag x r f).FB = s.FB := by
  rfl
@[simp] theorem State.setResultFlag_dirty (s : State) (x : Reg) (r f : Byte) : (s.setResultFlag x r f).dirty = s.dirty := by
  rfl
@[simp] theorem State.setResultFlag_running (s : State) (x : Reg) (r f : Byte) : (s.setResultFlag x r f).running = s.running := by
  rfl
@[simp] theorem State.setResultFlag_params (s : State) (x : Reg) (r f : Byte) : (s.setResultFlag x r f).params = s.params := by
  rfl
@[simp] theorem State.setResultFlag_rnd (s : State) (x : Reg) (r f : Byte) : (s.setResultFlag x r f).rnd = s.rnd := by
  rfl
@[simp] theorem State.setResultFlag_pending (s : State) (x : Reg) (r f : Byte) : (s.setResultFlag x r f).pending = s.pending := by
  rfl
@[simp] theorem State.setResultFlag_clock (s : State) (x : Reg) (r f : Byte) : (s.setResultFlag x r f).clock = s.clock := by
  rfl
@[simp] theorem State.setResultFlag_draws (s : State) (x : Reg) (r f : Byte) : (s.setResultFlag x r f).draws = s.draws := by
  rfl
@[simp] theorem State.setResultFlag_result (s : State) (x : Reg) (r f : Byte) : (s.setResultFlag x r f).result = s.result := by
  rfl
@[simp] theorem State.setResultFlag_events (s : State) (x : Reg) (r f : Byte) : (s.setResultFlag x r f).events = s.events := by
  rfl

end Sys2Proof.Machine
end

