-- ==== Sys2Proof/Laws/Timers.lean ====
section
/-! SUPPORT. What the tick, the flush and the end of a step can do, said once. -/

namespace Sys2Proof.Machine

/-- The delay clause changes `DT` alone, down by 1 with a floor at 0 (R251). -/
theorem State.tickDelay_eq (s : State) : s.tickDelay = { s with DT := s.tickDelay.DT } := by
  unfold State.tickDelay; split <;> rfl

theorem State.tickDelay_DT (s : State) : s.tickDelay.DT.toNat = s.DT.toNat - 1 := by
  unfold State.tickDelay
  split
  · show (s.DT - 1).toNat = _
    have := s.DT.isLt
    rw [BitVec.toNat_sub]; simp; omega
  · omega

/-- The sound clause with the timer at 0: nothing, or audio-off if the host was told on (R256 cases 1 and 5). -/
theorem State.tickSound_zero (s : State) (h : s.ST.toNat = 0) :
    s.tickSound = { s with sounding := false, events := s.events ++ if s.sounding then [.audio false] else [] } := by
  have h0 : ¬ s.ST.toNat > 0 := by omega
  unfold State.tickSound
  rw [if_neg h0]
  cases hs : s.sounding
  · have : s = { s with sounding := false } := by rw [← hs]
    simpa using this
  · rfl

/-- The sound clause with the timer at 1: it reaches 0 and the host is told off, after on if it was not told (R256 cases
4 and 6). -/
theorem State.tickSound_one (s : State) (h : s.ST.toNat = 1) :
    s.tickSound = { s with
      ST := 0, sounding := false,
      events := s.events ++ (if s.sounding then [.audio false] else [.audio true, .audio false]) } := by
  have h1 : s.ST = 1 := BitVec.eq_of_toNat_eq (by simpa using h)
  unfold State.tickSound
  rw [if_pos (by omega)]
  cases hs : s.sounding <;> simp [State.audioOnEdge, State.countSound, State.audioOn, State.audioOff, State.setST, State.emit, hs, h1]

/-- The sound clause with the timer above 1: it counts down and the host is told on if it was not (R256 cases 2 and 3). -/
theorem State.tickSound_more (s : State) (h : 2 ≤ s.ST.toNat) :
    s.tickSound = { s with
      ST := s.ST - 1, sounding := true, events := s.events ++ if s.sounding then [] else [.audio true] } := by
  have h1 : ¬ s.ST - 1#8 = 0#8 := by
    intro h0
    have h0' : (s.ST - 1#8).toNat = 0 := by rw [h0]; rfl
    have := s.ST.isLt
    rw [BitVec.toNat_sub] at h0'; simp at h0'; omega
  unfold State.tickSound
  rw [if_pos (by omega)]
  cases hs : s.sounding
  · simp [State.audioOnEdge, State.countSound, State.audioOn, State.setST, State.emit, hs, h1]
  · simp [State.audioOnEdge, State.countSound, State.setST, hs, h1]

/-- The sound clause changes `ST`, `sounding` and the events alone. -/
theorem State.tickSound_eq (s : State) :
    s.tickSound = { s with ST := s.tickSound.ST, sounding := s.tickSound.sounding, events := s.tickSound.events } := by
  obtain h | h | h : s.ST.toNat = 0 ∨ s.ST.toNat = 1 ∨ 2 ≤ s.ST.toNat := by omega
  · rw [State.tickSound_zero s h]
  · rw [State.tickSound_one s h]
  · rw [State.tickSound_more s h]

/-- The sound clause counts `ST` down by 1 with a floor at 0 (R251). -/
theorem State.tickSound_ST (s : State) : s.tickSound.ST.toNat = s.ST.toNat - 1 := by
  obtain h | h | h : s.ST.toNat = 0 ∨ s.ST.toNat = 1 ∨ 2 ≤ s.ST.toNat := by omega
  · rw [State.tickSound_zero s h]
    show s.ST.toNat = _
    omega
  · rw [State.tickSound_one s h, h]; rfl
  · rw [State.tickSound_more s h]
    show (s.ST - 1).toNat = _
    have := s.ST.isLt
    rw [BitVec.toNat_sub]
    change (256 - 1 + s.ST.toNat) % 256 = _
    omega

/-- The tick changes the timers, `sounding` and the events alone (R250). -/
theorem State.tick_eq (s : State) :
    s.tick = { s with DT := s.tick.DT, ST := s.tick.ST, sounding := s.tick.sounding, events := s.tick.events } := by
  unfold State.tick
  have h1 := State.tickSound_eq s.tickDelay
  have h2 := State.tickDelay_eq s
  generalize s.tickDelay.tickSound = t at h1 ⊢
  rw [h1, h2]

@[simp] theorem State.tickDelay_mem (s : State) : (s.tickDelay).mem = s.mem := by
  rw [State.tickDelay_eq]
@[simp] theorem State.tickDelay_V (s : State) : (s.tickDelay).V = s.V := by
  rw [State.tickDelay_eq]
@[simp] theorem State.tickDelay_I (s : State) : (s.tickDelay).I = s.I := by
  rw [State.tickDelay_eq]
@[simp] theorem State.tickDelay_PC (s : State) : (s.tickDelay).PC = s.PC := by
  rw [State.tickDelay_eq]
@[simp] theorem State.tickDelay_stack (s : State) : (s.tickDelay).stack = s.stack := by
  rw [State.tickDelay_eq]
@[simp] theorem State.tickDelay_SP (s : State) : (s.tickDelay).SP = s.SP := by
  rw [State.tickDelay_eq]
@[simp] theorem State.tickDelay_ST (s : State) : (s.tickDelay).ST = s.ST := by
  rw [State.tickDelay_eq]
@[simp] theorem State.tickDelay_sounding (s : State) : (s.tickDelay).sounding = s.sounding := by
  rw [State.tickDelay_eq]
@[simp] theorem State.tickDelay_key (s : State) : (s.tickDelay).key = s.key := by
  rw [State.tickDelay_eq]
@[simp] theorem State.tickDelay_stamp (s : State) : (s.tickDelay).stamp = s.stamp := by
  rw [State.tickDelay_eq]
@[simp] theorem State.tickDelay_FB (s : State) : (s.tickDelay).FB = s.FB := by
  rw [State.tickDelay_eq]
@[simp] theorem State.tickDelay_dirty (s : State) : (s.tickDelay).dirty = s.dirty := by
  rw [State.tickDelay_eq]
@[simp] theorem State.tickDelay_running (s : State) : (s.tickDelay).running = s.running := by
  rw [State.tickDelay_eq]
@[simp] theorem State.tickDelay_params (s : State) : (s.tickDelay).params = s.params := by
  rw [State.tickDelay_eq]
@[simp] theorem State.tickDelay_rnd (s : State) : (s.tickDelay).rnd = s.rnd := by
  rw [State.tickDelay_eq]
@[simp] theorem State.tickDelay_pending (s : State) : (s.tickDelay).pending = s.pending := by
  rw [State.tickDelay_eq]
@[simp] theorem State.tickDelay_clock (s : State) : (s.tickDelay).clock = s.clock := by
  rw [State.tickDelay_eq]
@[simp] theorem State.tickDelay_draws (s : State) : (s.tickDelay).draws = s.draws := by
  rw [State.tickDelay_eq]
@[simp] theorem State.tickDelay_result (s : State) : (s.tickDelay).result = s.result := by
  rw [State.tickDelay_eq]
@[simp] theorem State.tickDelay_events (s : State) : (s.tickDelay).events = s.events := by
  rw [State.tickDelay_eq]
@[simp] theorem State.tickSound_mem (s : State) : (s.tickSound).mem = s.mem := by
  rw [State.tickSound_eq]
@[simp] theorem State.tickSound_V (s : State) : (s.tickSound).V = s.V := by
  rw [State.tickSound_eq]
@[simp] theorem State.tickSound_I (s : State) : (s.tickSound).I = s.I := by
  rw [State.tickSound_eq]
@[simp] theorem State.tickSound_PC (s : State) : (s.tickSound).PC = s.PC := by
  rw [State.tickSound_eq]
@[simp] theorem State.tickSound_stack (s : State) : (s.tickSound).stack = s.stack := by
  rw [State.tickSound_eq]
@[simp] theorem State.tickSound_SP (s : State) : (s.tickSound).SP = s.SP := by
  rw [State.tickSound_eq]
@[simp] theorem State.tickSound_DT (s : State) : (s.tickSound).DT = s.DT := by
  rw [State.tickSound_eq]
@[simp] theorem State.tickSound_key (s : State) : (s.tickSound).key = s.key := by
  rw [State.tickSound_eq]
@[simp] theorem State.tickSound_stamp (s : State) : (s.tickSound).stamp = s.stamp := by
  rw [State.tickSound_eq]
@[simp] theorem State.tickSound_FB (s : State) : (s.tickSound).FB = s.FB := by
  rw [State.tickSound_eq]
@[simp] theorem State.tickSound_dirty (s : State) : (s.tickSound).dirty = s.dirty := by
  rw [State.tickSound_eq]
@[simp] theorem State.tickSound_running (s : State) : (s.tickSound).running = s.running := by
  rw [State.tickSound_eq]
@[simp] theorem State.tickSound_params (s : State) : (s.tickSound).params = s.params := by
  rw [State.tickSound_eq]
@[simp] theorem State.tickSound_rnd (s : State) : (s.tickSound).rnd = s.rnd := by
  rw [State.tickSound_eq]
@[simp] theorem State.tickSound_pending (s : State) : (s.tickSound).pending = s.pending := by
  rw [State.tickSound_eq]
@[simp] theorem State.tickSound_clock (s : State) : (s.tickSound).clock = s.clock := by
  rw [State.tickSound_eq]
@[simp] theorem State.tickSound_draws (s : State) : (s.tickSound).draws = s.draws := by
  rw [State.tickSound_eq]
@[simp] theorem State.tickSound_result (s : State) : (s.tickSound).result = s.result := by
  rw [State.tickSound_eq]
@[simp] theorem State.tick_mem (s : State) : (s.tick).mem = s.mem := by
  rw [State.tick_eq]
@[simp] theorem State.tick_V (s : State) : (s.tick).V = s.V := by
  rw [State.tick_eq]
@[simp] theorem State.tick_I (s : State) : (s.tick).I = s.I := by
  rw [State.tick_eq]
@[simp] theorem State.tick_PC (s : State) : (s.tick).PC = s.PC := by
  rw [State.tick_eq]
@[simp] theorem State.tick_stack (s : State) : (s.tick).stack = s.stack := by
  rw [State.tick_eq]
@[simp] theorem State.tick_SP (s : State) : (s.tick).SP = s.SP := by
  rw [State.tick_eq]
@[simp] theorem State.tick_key (s : State) : (s.tick).key = s.key := by
  rw [State.tick_eq]
@[simp] theorem State.tick_stamp (s : State) : (s.tick).stamp = s.stamp := by
  rw [State.tick_eq]
@[simp] theorem State.tick_FB (s : State) : (s.tick).FB = s.FB := by
  rw [State.tick_eq]
@[simp] theorem State.tick_dirty (s : State) : (s.tick).dirty = s.dirty := by
  rw [State.tick_eq]
@[simp] theorem State.tick_running (s : State) : (s.tick).running = s.running := by
  rw [State.tick_eq]
@[simp] theorem State.tick_params (s : State) : (s.tick).params = s.params := by
  rw [State.tick_eq]
@[simp] theorem State.tick_rnd (s : State) : (s.tick).rnd = s.rnd := by
  rw [State.tick_eq]
@[simp] theorem State.tick_pending (s : State) : (s.tick).pending = s.pending := by
  rw [State.tick_eq]
@[simp] theorem State.tick_clock (s : State) : (s.tick).clock = s.clock := by
  rw [State.tick_eq]
@[simp] theorem State.tick_draws (s : State) : (s.tick).draws = s.draws := by
  rw [State.tick_eq]
@[simp] theorem State.tick_result (s : State) : (s.tick).result = s.result := by
  rw [State.tick_eq]

/-- The flush changes the events and `dirty` alone, and `dirty` is false after it (R207). -/
theorem State.flushIfDirty_eq (s : State) :
    s.flushIfDirty = { s with dirty := false, events := s.events ++ if s.dirty then s.pixelEvents else [] } := by
  unfold State.flushIfDirty
  cases hd : s.dirty
  · have : s = { s with dirty := false } := by rw [← hd]
    simpa using this
  · rfl

/-- A step that faulted ends at the fault (R326). -/
theorem State.finish_faulted (s : State) (h : s.faulted = true) : s.finish = s := by simp [State.finish, h]

/-- A step that did not fault ticks and flushes (R284). -/
theorem State.finish_ok (s : State) (h : s.faulted = false) : s.finish = s.tick.flushIfDirty := by
  simp [State.finish, h]

@[simp] theorem State.flushIfDirty_mem (s : State) : (s.flushIfDirty).mem = s.mem := by
  rw [State.flushIfDirty_eq]
@[simp] theorem State.flushIfDirty_V (s : State) : (s.flushIfDirty).V = s.V := by
  rw [State.flushIfDirty_eq]
@[simp] theorem State.flushIfDirty_I (s : State) : (s.flushIfDirty).I = s.I := by
  rw [State.flushIfDirty_eq]
@[simp] theorem State.flushIfDirty_PC (s : State) : (s.flushIfDirty).PC = s.PC := by
  rw [State.flushIfDirty_eq]
@[simp] theorem State.flushIfDirty_stack (s : State) : (s.flushIfDirty).stack = s.stack := by
  rw [State.flushIfDirty_eq]
@[simp] theorem State.flushIfDirty_SP (s : State) : (s.flushIfDirty).SP = s.SP := by
  rw [State.flushIfDirty_eq]
@[simp] theorem State.flushIfDirty_DT (s : State) : (s.flushIfDirty).DT = s.DT := by
  rw [State.flushIfDirty_eq]
@[simp] theorem State.flushIfDirty_ST (s : State) : (s.flushIfDirty).ST = s.ST := by
  rw [State.flushIfDirty_eq]
@[simp] theorem State.flushIfDirty_sounding (s : State) : (s.flushIfDirty).sounding = s.sounding := by
  rw [State.flushIfDirty_eq]
@[simp] theorem State.flushIfDirty_key (s : State) : (s.flushIfDirty).key = s.key := by
  rw [State.flushIfDirty_eq]
@[simp] theorem State.flushIfDirty_stamp (s : State) : (s.flushIfDirty).stamp = s.stamp := by
  rw [State.flushIfDirty_eq]
@[simp] theorem State.flushIfDirty_FB (s : State) : (s.flushIfDirty).FB = s.FB := by
  rw [State.flushIfDirty_eq]
@[simp] theorem State.flushIfDirty_running (s : State) : (s.flushIfDirty).running = s.running := by
  rw [State.flushIfDirty_eq]
@[simp] theorem State.flushIfDirty_params (s : State) : (s.flushIfDirty).params = s.params := by
  rw [State.flushIfDirty_eq]
@[simp] theorem State.flushIfDirty_rnd (s : State) : (s.flushIfDirty).rnd = s.rnd := by
  rw [State.flushIfDirty_eq]
@[simp] theorem State.flushIfDirty_pending (s : State) : (s.flushIfDirty).pending = s.pending := by
  rw [State.flushIfDirty_eq]
@[simp] theorem State.flushIfDirty_clock (s : State) : (s.flushIfDirty).clock = s.clock := by
  rw [State.flushIfDirty_eq]
@[simp] theorem State.flushIfDirty_draws (s : State) : (s.flushIfDirty).draws = s.draws := by
  rw [State.flushIfDirty_eq]
@[simp] theorem State.flushIfDirty_result (s : State) : (s.flushIfDirty).result = s.result := by
  rw [State.flushIfDirty_eq]
@[simp] theorem State.finish_mem (s : State) : s.finish.mem = s.mem := by
  unfold State.finish; split <;> simp
@[simp] theorem State.finish_V (s : State) : s.finish.V = s.V := by
  unfold State.finish; split <;> simp
@[simp] theorem State.finish_I (s : State) : s.finish.I = s.I := by
  unfold State.finish; split <;> simp
@[simp] theorem State.finish_PC (s : State) : s.finish.PC = s.PC := by
  unfold State.finish; split <;> simp
@[simp] theorem State.finish_stack (s : State) : s.finish.stack = s.stack := by
  unfold State.finish; split <;> simp
@[simp] theorem State.finish_SP (s : State) : s.finish.SP = s.SP := by
  unfold State.finish; split <;> simp
@[simp] theorem State.finish_key (s : State) : s.finish.key = s.key := by
  unfold State.finish; split <;> simp
@[simp] theorem State.finish_stamp (s : State) : s.finish.stamp = s.stamp := by
  unfold State.finish; split <;> simp
@[simp] theorem State.finish_FB (s : State) : s.finish.FB = s.FB := by
  unfold State.finish; split <;> simp
@[simp] theorem State.finish_running (s : State) : s.finish.running = s.running := by
  unfold State.finish; split <;> simp
@[simp] theorem State.finish_params (s : State) : s.finish.params = s.params := by
  unfold State.finish; split <;> simp
@[simp] theorem State.finish_rnd (s : State) : s.finish.rnd = s.rnd := by
  unfold State.finish; split <;> simp
@[simp] theorem State.finish_pending (s : State) : s.finish.pending = s.pending := by
  unfold State.finish; split <;> simp
@[simp] theorem State.finish_clock (s : State) : s.finish.clock = s.clock := by
  unfold State.finish; split <;> simp
@[simp] theorem State.finish_draws (s : State) : s.finish.draws = s.draws := by
  unfold State.finish; split <;> simp
@[simp] theorem State.finish_result (s : State) : s.finish.result = s.result := by
  unfold State.finish; split <;> simp

end Sys2Proof.Machine
end

