-- ==== Sys2Proof/Laws/Display.lean ====
section
/-! SUPPORT. What one pixel, one row and a whole draw of the blitter do to the framebuffer and to the collision, said once
(43_display_blitter R192 to R196). -/

namespace Sys2Proof.Machine

@[simp] theorem Frame.pixel_clear (py : Fin 32) (px : Fin 64) : Frame.clear.pixel py px = false := by
  simp [Frame.clear, Frame.pixel]

/-- A pixel after one was flipped. -/
theorem Frame.pixel_flip (f : Frame) (py qy : Fin 32) (px qx : Fin 64) :
    (f.flip py px).pixel qy qx = if qy = py ∧ qx = px then !f.pixel py px else f.pixel qy qx := by
  unfold Frame.flip Frame.pixel
  by_cases hy : qy = py
  · subst hy
    by_cases hx : qx = px
    · subst hx; simp
    · have : px.val ≠ qx.val := fun h => hx (Fin.ext h.symm)
      simp [hx, Vector.getElem_set_ne _ _ this]
  · have : py.val ≠ qy.val := fun h => hy (Fin.ext h.symm)
    simp [hy, Vector.getElem_set_ne _ _ this]

/-- Two framebuffers are equal when every pixel is. -/
theorem Frame.ext_pixel {f g : Frame} (h : ∀ py px, f.pixel py px = g.pixel py px) : f = g := by
  apply Vector.ext
  intro i hi
  apply Vector.ext
  intro j hj
  exact h ⟨i, hi⟩ ⟨j, hj⟩

/-- The eight columns of a sprite are distinct (R196). -/
theorem spriteCol_inj {x0 c d : Nat} (hc : c < 8) (hd : d < 8) (h : spriteCol x0 c = spriteCol x0 d) : c = d := by
  have h' : (x0 + c) % 64 = (x0 + d) % 64 := congrArg Fin.val h
  omega

/-- The rows of a sprite are distinct (R196). -/
theorem spriteRow_inj {y0 r q : Nat} (hr : r < 32) (hq : q < 32) (h : spriteRow y0 r = spriteRow y0 q) : r = q := by
  have h' : (y0 + r) % 32 = (y0 + q) % 32 := congrArg Fin.val h
  omega

/-- The first `k` columns of a row. -/
def blitCols (b : Byte) (x0 : Nat) (py : Fin 32) (k : Nat) (d : Blit) : Blit :=
  (List.range k).foldl (fun d c => if spriteBit b c then blitPixel d py (spriteCol x0 c) else d) d

theorem blitCols_succ (b : Byte) (x0 : Nat) (py : Fin 32) (k : Nat) (d : Blit) :
    blitCols b x0 py (k + 1) d =
      if spriteBit b k then blitPixel (blitCols b x0 py k d) py (spriteCol x0 k) else blitCols b x0 py k d := by
  simp [blitCols, List.range_succ]

/-- The first `k` columns XOR their pixels into the framebuffer and see the collisions there. -/
theorem blitCols_spec (b : Byte) (x0 : Nat) (py : Fin 32) (d : Blit) : ∀ k, k ≤ 8 →
    (∀ qy qx, (blitCols b x0 py k d).fb.pixel qy qx = true ↔
      ¬ (d.fb.pixel qy qx = true ↔ qy = py ∧ ∃ c, c < k ∧ spriteCol x0 c = qx ∧ spriteBit b c = true)) ∧
    ((blitCols b x0 py k d).hit = true ↔
      d.hit = true ∨ ∃ c, c < k ∧ spriteBit b c = true ∧ d.fb.pixel py (spriteCol x0 c) = true) := by
  intro k
  induction k with
  | zero => intro _; simp [blitCols]
  | succ k ih =>
    intro hk
    obtain ⟨ihp, ihh⟩ := ih (by omega)
    have hfresh : ¬ ∃ c, c < k ∧ spriteCol x0 c = spriteCol x0 k ∧ spriteBit b c = true := by
      rintro ⟨c, hc, he, -⟩
      have := spriteCol_inj (by omega) (by omega) he
      omega
    rw [blitCols_succ]
    by_cases hb : spriteBit b k = true
    · rw [if_pos hb]
      constructor
      · intro qy qx
        show ((blitCols b x0 py k d).fb.flip py (spriteCol x0 k)).pixel qy qx = true ↔ _
        rw [Frame.pixel_flip]
        by_cases hq : qy = py ∧ qx = spriteCol x0 k
        · obtain ⟨rfl, rfl⟩ := hq
          have hold := ihp qy (spriteCol x0 k)
          have hnew : ∃ c, c < k + 1 ∧ spriteCol x0 c = spriteCol x0 k ∧ spriteBit b c = true :=
            ⟨k, by omega, rfl, hb⟩
          simp only [hfresh, and_false, iff_false, not_not] at hold
          simp only [hnew, iff_true, and_self, if_true, Bool.not_eq_true', ← Bool.not_eq_true, hold]
        · rw [if_neg hq, ihp]
          have : (qy = py ∧ ∃ c, c < k ∧ spriteCol x0 c = qx ∧ spriteBit b c = true) ↔
              (qy = py ∧ ∃ c, c < k + 1 ∧ spriteCol x0 c = qx ∧ spriteBit b c = true) := by
            constructor
            · rintro ⟨hy, c, hc, h⟩
              exact ⟨hy, c, by omega, h⟩
            · rintro ⟨hy, c, hc, he, h⟩
              refine ⟨hy, c, ?_, he, h⟩
              have : c ≠ k := fun h' => hq ⟨hy, by rw [← he, h']⟩
              omega
          rw [this]
      · show ((blitCols b x0 py k d).hit || (blitCols b x0 py k d).fb.pixel py (spriteCol x0 k)) = true ↔ _
        have hold := ihp py (spriteCol x0 k)
        simp only [hfresh, and_false, iff_false, not_not] at hold
        rw [Bool.or_eq_true, ihh, hold]
        constructor
        · rintro ((h | ⟨c, hc, h⟩) | h)
          · exact .inl h
          · exact .inr ⟨c, by omega, h⟩
          · exact .inr ⟨k, by omega, hb, h⟩
        · rintro (h | ⟨c, hc, h⟩)
          · exact .inl (.inl h)
          · by_cases hck : c = k
            · subst hck; exact .inr h.2
            · exact .inl (.inr ⟨c, by omega, h⟩)
    · rw [if_neg hb]
      have : ∀ c, c < k + 1 → spriteBit b c = true → c < k := fun c hc h => by
        have : c ≠ k := fun h' => hb (h' ▸ h)
        omega
      constructor
      · intro qy qx
        rw [ihp]
        have : (qy = py ∧ ∃ c, c < k ∧ spriteCol x0 c = qx ∧ spriteBit b c = true) ↔
            (qy = py ∧ ∃ c, c < k + 1 ∧ spriteCol x0 c = qx ∧ spriteBit b c = true) :=
          ⟨fun ⟨hy, c, hc, h⟩ => ⟨hy, c, by omega, h⟩, fun ⟨hy, c, hc, he, h⟩ => ⟨hy, c, this c hc h, he, h⟩⟩
        rw [this]
      · rw [ihh]
        exact or_congr_right
          ⟨fun ⟨c, hc, h⟩ => ⟨c, by omega, h⟩, fun ⟨c, hc, h⟩ => ⟨c, this c hc h.1, h⟩⟩

/-- One row of a sprite XORs its pixels into one row of the framebuffer and sees the collisions there. -/
theorem blitRow_spec (b : Byte) (x0 : Nat) (py : Fin 32) (d : Blit) :
    (∀ qy qx, (blitRow b x0 py d).fb.pixel qy qx = true ↔
      ¬ (d.fb.pixel qy qx = true ↔ qy = py ∧ ∃ c, c < 8 ∧ spriteCol x0 c = qx ∧ spriteBit b c = true)) ∧
    ((blitRow b x0 py d).hit = true ↔
      d.hit = true ∨ ∃ c, c < 8 ∧ spriteBit b c = true ∧ d.fb.pixel py (spriteCol x0 c) = true) :=
  blitCols_spec b x0 py d 8 (le_refl 8)

theorem State.blit_succ (s : State) (x0 y0 n : Nat) :
    s.blit x0 y0 (n + 1) = blitRow (s.readByte (s.ea n)) x0 (spriteRow y0 n) (s.blit x0 y0 n) := by
  simp [State.blit, List.range_succ]

end Sys2Proof.Machine
end

