-- ==== Sys2Proof/Laws/Encoding.lean ====
section
/-! SUPPORT. Each field of each encoding format reads back (30_encoding R91, R92). -/

namespace Sys2Proof

@[simp] theorem regOf_regBits (r : Reg) : regOf (regBits r) = r := by
  revert r; decide

@[simp] theorem regBits_regOf (b : BitVec 4) : regBits (regOf b) = b := by
  revert b; decide

/-- A concatenation as a number. -/
theorem toNat_append_add {m n : Nat} (a : BitVec m) (b : BitVec n) : (a ++ b).toNat = a.toNat * 2 ^ n + b.toNat := by
  rw [BitVec.toNat_append, ← Nat.shiftLeft_add_eq_or_of_lt b.isLt, Nat.shiftLeft_eq]

theorem toNat_field (w : Word) (lo len : Nat) : (w.extractLsb' lo len).toNat = w.toNat / 2 ^ lo % 2 ^ len := by
  simp [BitVec.extractLsb'_toNat, Nat.shiftRight_eq_div_pow]

@[simp] theorem famOf_encodeA (f : BitVec 4) (a : BitVec 12) : famOf (encodeA f a) = f := by
  apply BitVec.eq_of_toNat_eq
  have := f.isLt; have := a.isLt
  rw [famOf, toNat_field, encodeA, toNat_append_add]; omega

@[simp] theorem nnnOf_encodeA (f : BitVec 4) (a : BitVec 12) : nnnOf (encodeA f a) = a := by
  apply BitVec.eq_of_toNat_eq
  have := f.isLt; have := a.isLt
  rw [nnnOf, toNat_field, encodeA, toNat_append_add]; omega

theorem encodeXB_toNat (f : BitVec 4) (x : Reg) (nn : Byte) :
    (encodeXB f x nn).toNat = f.toNat * 4096 + (x.val * 256 + nn.toNat) := by
  have hx : (regBits x).toNat = x.val := by revert x; decide
  rw [encodeXB, toNat_append_add, toNat_append_add, hx]; norm_num

@[simp] theorem famOf_encodeXB (f : BitVec 4) (x : Reg) (nn : Byte) : famOf (encodeXB f x nn) = f := by
  apply BitVec.eq_of_toNat_eq
  have := f.isLt; have := x.isLt; have := nn.isLt
  rw [famOf, toNat_field, encodeXB_toNat]; omega

@[simp] theorem xOf_encodeXB (f : BitVec 4) (x : Reg) (nn : Byte) : xOf (encodeXB f x nn) = x := by
  apply Fin.ext
  have := f.isLt; have := x.isLt; have := nn.isLt
  show ((encodeXB f x nn).extractLsb' 8 4).toNat = _
  rw [toNat_field, encodeXB_toNat]; omega

@[simp] theorem nnOf_encodeXB (f : BitVec 4) (x : Reg) (nn : Byte) : nnOf (encodeXB f x nn) = nn := by
  apply BitVec.eq_of_toNat_eq
  have := f.isLt; have := x.isLt; have := nn.isLt
  rw [nnOf, toNat_field, encodeXB_toNat]; omega

theorem encodeXYN_toNat (f : BitVec 4) (x y : Reg) (n : BitVec 4) :
    (encodeXYN f x y n).toNat = f.toNat * 4096 + (x.val * 256 + (y.val * 16 + n.toNat)) := by
  have hx : (regBits x).toNat = x.val := by revert x; decide
  have hy : (regBits y).toNat = y.val := by revert y; decide
  rw [encodeXYN, toNat_append_add, toNat_append_add, toNat_append_add, hx, hy]; norm_num

@[simp] theorem famOf_encodeXYN (f : BitVec 4) (x y : Reg) (n : BitVec 4) : famOf (encodeXYN f x y n) = f := by
  apply BitVec.eq_of_toNat_eq
  have := f.isLt; have := x.isLt; have := y.isLt; have := n.isLt
  rw [famOf, toNat_field, encodeXYN_toNat]; omega

@[simp] theorem xOf_encodeXYN (f : BitVec 4) (x y : Reg) (n : BitVec 4) : xOf (encodeXYN f x y n) = x := by
  apply Fin.ext
  have := f.isLt; have := x.isLt; have := y.isLt; have := n.isLt
  show ((encodeXYN f x y n).extractLsb' 8 4).toNat = _
  rw [toNat_field, encodeXYN_toNat]; omega

@[simp] theorem yOf_encodeXYN (f : BitVec 4) (x y : Reg) (n : BitVec 4) : yOf (encodeXYN f x y n) = y := by
  apply Fin.ext
  have := f.isLt; have := x.isLt; have := y.isLt; have := n.isLt
  show ((encodeXYN f x y n).extractLsb' 4 4).toNat = _
  rw [toNat_field, encodeXYN_toNat]; omega

@[simp] theorem nOf_encodeXYN (f : BitVec 4) (x y : Reg) (n : BitVec 4) : nOf (encodeXYN f x y n) = n := by
  apply BitVec.eq_of_toNat_eq
  have := f.isLt; have := x.isLt; have := y.isLt; have := n.isLt
  rw [nOf, toNat_field, encodeXYN_toNat]; omega

/-- A word is its format-`A` fields put together. -/
theorem encodeA_fields (w : Word) : encodeA (famOf w) (nnnOf w) = w := by
  apply BitVec.eq_of_toNat_eq
  have := w.isLt
  rw [encodeA, toNat_append_add, famOf, nnnOf, toNat_field, toNat_field]; omega

/-- A word is its format-`XB` fields put together. -/
theorem encodeXB_fields (w : Word) : encodeXB (famOf w) (xOf w) (nnOf w) = w := by
  apply BitVec.eq_of_toNat_eq
  have := w.isLt
  have hx : (xOf w).val = w.toNat / 2 ^ 8 % 2 ^ 4 := toNat_field w 8 4
  rw [encodeXB_toNat, hx, famOf, nnOf, toNat_field, toNat_field]; omega

/-- A word is its format-`XYN` fields put together. -/
theorem encodeXYN_fields (w : Word) : encodeXYN (famOf w) (xOf w) (yOf w) (nOf w) = w := by
  apply BitVec.eq_of_toNat_eq
  have := w.isLt
  have hx : (xOf w).val = w.toNat / 2 ^ 8 % 2 ^ 4 := toNat_field w 8 4
  have hy : (yOf w).val = w.toNat / 2 ^ 4 % 2 ^ 4 := toNat_field w 4 4
  rw [encodeXYN_toNat, hx, hy, famOf, nOf, toNat_field, toNat_field]; omega

/-- The two bytes of a word, read big-endian, are the word (R62). -/
theorem wordOfBytes_bytes (w : Word) : wordOfBytes (w.extractLsb' 8 8) (w.extractLsb' 0 8) = w := by
  apply BitVec.eq_of_toNat_eq
  have := w.isLt
  rw [wordOfBytes, toNat_append_add, toNat_field, toNat_field]; omega

end Sys2Proof
end

