-- ==== Sys2Proof/Laws/PerInstr.lean ====
section
/-! SUPPORT. The family `RowMatch`: the word of an instruction matches the instruction's own row of the opcode table in
every fixed bit (30_encoding R94, R95). -/

namespace Sys2Proof.Laws.RowMatch

/-- The encoding of the instruction matches its row of R95. -/
def Statement (i : Instr) : Prop := (rowOf i).holds (encode i) = true

theorem encodeA_masked (f : BitVec 4) (a : BitVec 12) : encodeA f a &&& 0xF000 = encodeA f 0 := by
  show (f ++ a) &&& (0xF#4 ++ 0#12) = f ++ 0#12
  rw [BitVec.and_append, BitVec.and_zero]
  congr 1
  exact BitVec.and_allOnes

theorem encodeXB_masked (f : BitVec 4) (x : Reg) (nn : Byte) : encodeXB f x nn &&& 0xF000 = encodeA f 0 :=
  encodeA_masked f _

theorem encodeXF_masked (f : BitVec 4) (x : Reg) (nn : Byte) : encodeXB f x nn &&& 0xF0FF = encodeXB f 0 nn := by
  show (f ++ (regBits x ++ nn)) &&& (0xF#4 ++ (0#4 ++ 0xFF#8)) = f ++ (regBits 0 ++ nn)
  rw [BitVec.and_append, BitVec.and_append, BitVec.and_zero]
  congr 1
  · exact BitVec.and_allOnes
  · congr 1
    exact BitVec.and_allOnes

theorem encodeXYF_masked (f : BitVec 4) (x y : Reg) (n : BitVec 4) :
    encodeXYN f x y n &&& 0xF00F = encodeXYN f 0 0 n := by
  show (f ++ (regBits x ++ (regBits y ++ n))) &&& (0xF#4 ++ (0#4 ++ (0#4 ++ 0xF#4))) =
    f ++ (regBits 0 ++ (regBits 0 ++ n))
  rw [BitVec.and_append, BitVec.and_append, BitVec.and_append, BitVec.and_zero, BitVec.and_zero]
  congr 1
  · exact BitVec.and_allOnes
  · congr 2
    exact BitVec.and_allOnes

theorem encodeXYN_masked (f : BitVec 4) (x y : Reg) (n : BitVec 4) : encodeXYN f x y n &&& 0xF000 = encodeA f 0 :=
  encodeA_masked f _

/-- The bits of a word a mask of R95 keeps: the family. -/
theorem and_F000 (w : Word) : w &&& 0xF000 = encodeA (famOf w) 0 := by
  have h := encodeA_masked (famOf w) (nnnOf w)
  rwa [encodeA_fields] at h

/-- The family and the byte `nn`. -/
theorem and_F0FF (w : Word) : w &&& 0xF0FF = encodeXB (famOf w) 0 (nnOf w) := by
  have h := encodeXF_masked (famOf w) (xOf w) (nnOf w)
  rwa [encodeXB_fields] at h

/-- The family and the nibble `n`. -/
theorem and_F00F (w : Word) : w &&& 0xF00F = encodeXYN (famOf w) 0 0 (nOf w) := by
  have h := encodeXYF_masked (famOf w) (xOf w) (yOf w) (nOf w)
  rwa [encodeXYN_fields] at h

/-- A row holds of a word whose fixed bits are the row's. -/
theorem of_masked {r : OpcodeRow} {w : Word} (h : w &&& r.mask = r.pattern) : r.holds w = true := beq_iff_eq.2 h

theorem cls : Statement .cls := by unfold Statement; decide
theorem ret : Statement .ret := by unfold Statement; decide
theorem jp (nnn : BitVec 12) : Statement (.jp nnn) := of_masked ((encodeA_masked _ _).trans rfl)
theorem call (nnn : BitVec 12) : Statement (.call nnn) := of_masked ((encodeA_masked _ _).trans rfl)
theorem seByte (x : Reg) (nn : Byte) : Statement (.seByte x nn) := of_masked ((encodeXB_masked _ _ _).trans rfl)
theorem sneByte (x : Reg) (nn : Byte) : Statement (.sneByte x nn) := of_masked ((encodeXB_masked _ _ _).trans rfl)
theorem seReg (x : Reg) (y : Reg) : Statement (.seReg x y) := of_masked ((encodeXYF_masked _ _ _ _).trans rfl)
theorem ldByte (x : Reg) (nn : Byte) : Statement (.ldByte x nn) := of_masked ((encodeXB_masked _ _ _).trans rfl)
theorem addByte (x : Reg) (nn : Byte) : Statement (.addByte x nn) := of_masked ((encodeXB_masked _ _ _).trans rfl)
theorem ldReg (x : Reg) (y : Reg) : Statement (.ldReg x y) := of_masked ((encodeXYF_masked _ _ _ _).trans rfl)
theorem orReg (x : Reg) (y : Reg) : Statement (.orReg x y) := of_masked ((encodeXYF_masked _ _ _ _).trans rfl)
theorem andReg (x : Reg) (y : Reg) : Statement (.andReg x y) := of_masked ((encodeXYF_masked _ _ _ _).trans rfl)
theorem xorReg (x : Reg) (y : Reg) : Statement (.xorReg x y) := of_masked ((encodeXYF_masked _ _ _ _).trans rfl)
theorem addReg (x : Reg) (y : Reg) : Statement (.addReg x y) := of_masked ((encodeXYF_masked _ _ _ _).trans rfl)
theorem sub (x : Reg) (y : Reg) : Statement (.sub x y) := of_masked ((encodeXYF_masked _ _ _ _).trans rfl)
theorem shr (x : Reg) (y : Reg) : Statement (.shr x y) := of_masked ((encodeXYF_masked _ _ _ _).trans rfl)
theorem subn (x : Reg) (y : Reg) : Statement (.subn x y) := of_masked ((encodeXYF_masked _ _ _ _).trans rfl)
theorem shl (x : Reg) (y : Reg) : Statement (.shl x y) := of_masked ((encodeXYF_masked _ _ _ _).trans rfl)
theorem sneReg (x : Reg) (y : Reg) : Statement (.sneReg x y) := of_masked ((encodeXYF_masked _ _ _ _).trans rfl)
theorem ldI (nnn : BitVec 12) : Statement (.ldI nnn) := of_masked ((encodeA_masked _ _).trans rfl)
theorem jpV0 (nnn : BitVec 12) : Statement (.jpV0 nnn) := of_masked ((encodeA_masked _ _).trans rfl)
theorem rnd (x : Reg) (nn : Byte) : Statement (.rnd x nn) := of_masked ((encodeXB_masked _ _ _).trans rfl)
theorem drw (x : Reg) (y : Reg) (n : Nat) : Statement (.drw x y n) := of_masked ((encodeXYN_masked _ _ _ _).trans rfl)
theorem skp (x : Reg) : Statement (.skp x) := of_masked ((encodeXF_masked _ _ _).trans rfl)
theorem sknp (x : Reg) : Statement (.sknp x) := of_masked ((encodeXF_masked _ _ _).trans rfl)
theorem ldVxDT (x : Reg) : Statement (.ldVxDT x) := of_masked ((encodeXF_masked _ _ _).trans rfl)
theorem ldVxK (x : Reg) : Statement (.ldVxK x) := of_masked ((encodeXF_masked _ _ _).trans rfl)
theorem ldDTVx (x : Reg) : Statement (.ldDTVx x) := of_masked ((encodeXF_masked _ _ _).trans rfl)
theorem ldSTVx (x : Reg) : Statement (.ldSTVx x) := of_masked ((encodeXF_masked _ _ _).trans rfl)
theorem addI (x : Reg) : Statement (.addI x) := of_masked ((encodeXF_masked _ _ _).trans rfl)
theorem ldF (x : Reg) : Statement (.ldF x) := of_masked ((encodeXF_masked _ _ _).trans rfl)
theorem ldB (x : Reg) : Statement (.ldB x) := of_masked ((encodeXF_masked _ _ _).trans rfl)
theorem storeRegs (x : Reg) : Statement (.storeRegs x) := of_masked ((encodeXF_masked _ _ _).trans rfl)
theorem loadRegs (x : Reg) : Statement (.loadRegs x) := of_masked ((encodeXF_masked _ _ _).trans rfl)

end Sys2Proof.Laws.RowMatch
end

