-- ==== Sys2Proof/Laws/Safety.lean ====
section
/-! SUPPORT. The small lemmas of the predicates of Safety.lean. -/

namespace Sys2Proof.Machine

/-! ### The host's clock samples, command by command (R222, R296) -/

@[simp] theorem samplesRise_nil (t : Nat) : samplesRise t [] ↔ True := Iff.rfl
@[simp] theorem samplesRise_step (t now : Nat) (rnd : Byte) (cs : List Command) :
    samplesRise t (.step now rnd :: cs) ↔ t ≤ now ∧ samplesRise now cs := Iff.rfl
@[simp] theorem samplesRise_press (t now : Nat) (sym : Symbol) (cs : List Command) :
    samplesRise t (.press sym now :: cs) ↔ t ≤ now ∧ samplesRise now cs := Iff.rfl
@[simp] theorem samplesRise_reset (t : Nat) (cs : List Command) :
    samplesRise t (.reset :: cs) ↔ samplesRise t cs := Iff.rfl
@[simp] theorem samplesRise_start (t : Nat) (cs : List Command) :
    samplesRise t (.start :: cs) ↔ samplesRise t cs := Iff.rfl
@[simp] theorem samplesRise_stop (t : Nat) (cs : List Command) :
    samplesRise t (.stop :: cs) ↔ samplesRise t cs := Iff.rfl
@[simp] theorem samplesRise_release (t : Nat) (sym : Symbol) (cs : List Command) :
    samplesRise t (.release sym :: cs) ↔ samplesRise t cs := Iff.rfl
@[simp] theorem samplesRise_loadProgram (t : Nat) (bs : List Byte) (cs : List Command) :
    samplesRise t (.loadProgram bs :: cs) ↔ samplesRise t cs := Iff.rfl

/-- Samples that rise from a later time rise from an earlier one. -/
theorem samplesRise_of_le {t u : Nat} {cs : List Command} (h : samplesRise u cs) (htu : t ≤ u) : samplesRise t cs := by
  induction cs with
  | nil => trivial
  | cons c cs ih =>
    cases c
    case step => exact ⟨Nat.le_trans htu h.1, h.2⟩
    case press => exact ⟨Nat.le_trans htu h.1, h.2⟩
    all_goals exact ih h

end Sys2Proof.Machine
end

