-- ==== Sys2Proof/Laws/Step.lean ====
section
/-! SUPPORT. What a step can do, said once: one case per way through the phases of R284, and one per command. -/

namespace Sys2Proof.Machine

/-- The state in which a RUNNING step fetches: inputs taken and keys swept (R284 phase 1). -/
def State.swept (s : State) (now : Nat) (rnd : Byte) : State := (s.takeInputs now rnd).sweep now

@[simp] theorem State.swept_mem (s : State) (now : Nat) (rnd : Byte) : (s.swept now rnd).mem = s.mem := rfl
@[simp] theorem State.swept_V (s : State) (now : Nat) (rnd : Byte) : (s.swept now rnd).V = s.V := rfl
@[simp] theorem State.swept_I (s : State) (now : Nat) (rnd : Byte) : (s.swept now rnd).I = s.I := rfl
@[simp] theorem State.swept_PC (s : State) (now : Nat) (rnd : Byte) : (s.swept now rnd).PC = s.PC := rfl
@[simp] theorem State.swept_stack (s : State) (now : Nat) (rnd : Byte) : (s.swept now rnd).stack = s.stack := rfl
@[simp] theorem State.swept_SP (s : State) (now : Nat) (rnd : Byte) : (s.swept now rnd).SP = s.SP := rfl
@[simp] theorem State.swept_DT (s : State) (now : Nat) (rnd : Byte) : (s.swept now rnd).DT = s.DT := rfl
@[simp] theorem State.swept_ST (s : State) (now : Nat) (rnd : Byte) : (s.swept now rnd).ST = s.ST := rfl
@[simp] theorem State.swept_sounding (s : State) (now : Nat) (rnd : Byte) : (s.swept now rnd).sounding = s.sounding := rfl
@[simp] theorem State.swept_stamp (s : State) (now : Nat) (rnd : Byte) : (s.swept now rnd).stamp = s.stamp := rfl
@[simp] theorem State.swept_FB (s : State) (now : Nat) (rnd : Byte) : (s.swept now rnd).FB = s.FB := rfl
@[simp] theorem State.swept_dirty (s : State) (now : Nat) (rnd : Byte) : (s.swept now rnd).dirty = s.dirty := rfl
@[simp] theorem State.swept_running (s : State) (now : Nat) (rnd : Byte) : (s.swept now rnd).running = s.running := rfl
@[simp] theorem State.swept_params (s : State) (now : Nat) (rnd : Byte) : (s.swept now rnd).params = s.params := rfl
@[simp] theorem State.swept_pending (s : State) (now : Nat) (rnd : Byte) : (s.swept now rnd).pending = s.pending := rfl
@[simp] theorem State.swept_result (s : State) (now : Nat) (rnd : Byte) : (s.swept now rnd).result = s.result := rfl
@[simp] theorem State.swept_rnd (s : State) (now : Nat) (rnd : Byte) : (s.swept now rnd).rnd = rnd := rfl
@[simp] theorem State.swept_clock (s : State) (now : Nat) (rnd : Byte) : (s.swept now rnd).clock = now := rfl
@[simp] theorem State.swept_draws (s : State) (now : Nat) (rnd : Byte) : (s.swept now rnd).draws = s.draws + 1 := rfl
@[simp] theorem State.swept_events (s : State) (now : Nat) (rnd : Byte) : (s.swept now rnd).events = s.events := rfl

/-- A key in that state: what it was, unless its window has elapsed (R229). -/
theorem State.swept_key (s : State) (now : Nat) (rnd : Byte) (k : Fin 16) :
    (s.swept now rnd).key[k.val] = (s.key[k.val] && !decide (s.params.debounceMs < now - s.stamp[k.val])) :=
  State.sweep_key (s.takeInputs now rnd) now k

/-- The word at `PC` is executed, or reported (R284 phases 3 to 6). -/
theorem State.runWord_cases {s t : State} {w : Word} (h : s.runWord w = .next t) :
    (∃ i v, decode w = .ok i ∧ exec i s.advancePC = .next v ∧ t = v.finish) ∨
      (∃ e, decode w = .error e ∧ t = (s.advancePC.reportUnrecognized w s.PC.toNat).finish) := by
  unfold State.runWord at h
  split at h
  · rename_i i hd
    split at h
    · rename_i v hv
      injection h with h
      exact .inl ⟨i, v, hd, hv, h.symm⟩
    · cases h
    · cases h
  · rename_i e hd
    injection h with h
    exact .inr ⟨e, hd, h.symm⟩

/-- Everything a `step` command that answers a next state can have done (R284, R285, R287). -/
theorem State.stepCommand_cases {s t : State} {now : Nat} {rnd : Byte} (h : s.stepCommand now rnd = .next t) :
    (s.running = false ∧ t = { s with result := .stopped }) ∨
      (s.running = true ∧ 4094 < s.PC.toNat ∧ t = (s.swept now rnd).takeFault .fetchBounds s.PC.toNat) ∨
      (s.running = true ∧ s.PC.toNat ≤ 4094 ∧ (s.swept now rnd).runWord (s.swept now rnd).fetchWord = .next t) := by
  unfold State.stepCommand at h
  split at h
  · rename_i hr
    unfold State.fetchAndRun at h
    split at h
    · rename_i hc
      exact .inr (.inr ⟨hr, by simpa using hc, h⟩)
    · rename_i hc
      injection h with h
      have : 4094 < s.PC.toNat := by
        rw [State.canFetch_iff] at hc; simpa using hc
      exact .inr (.inl ⟨hr, this, h.symm⟩)
  · rename_i hr
    injection h with h
    exact .inl ⟨by simpa using hr, h.symm⟩

/-- A step is the next command carried out on the state without it. -/
theorem step_eq (s : State) : step s = s.dequeue.command s.nextCommand := rfl

@[simp] theorem State.nextCommand_cons (s : State) (c : Command) (cs : List Command) (h : s.pending = c :: cs) :
    s.nextCommand = c := by simp [State.nextCommand, h]

@[simp] theorem State.nextCommand_nil (s : State) (h : s.pending = []) : s.nextCommand = s.freeStep := by
  simp [State.nextCommand, h]

/-- The fetched word is a function of memory and `PC`. -/
theorem State.fetchWord_congr {s t : State} (hm : t.mem = s.mem) (hp : t.params = s.params) (hc : t.PC = s.PC) :
    t.fetchWord = s.fetchWord := by
  unfold State.fetchWord
  rw [hc, State.readByte_congr hm hp, State.readByte_congr hm hp]

/-- `step` while STOPPED (R287). -/
theorem State.stepCommand_stopped (s : State) (now : Nat) (rnd : Byte) (hr : s.running = false) :
    s.stepCommand now rnd = .next { s with result := .stopped } := by
  unfold State.stepCommand
  rw [hr]; rfl

/-- `step` while RUNNING with a word to fetch (R284). -/
theorem State.stepCommand_fetch (s : State) (now : Nat) (rnd : Byte) (hr : s.running = true)
    (hp : s.PC.toNat ≤ 4094) : s.stepCommand now rnd = (s.swept now rnd).runWord s.fetchWord := by
  have hc : (s.swept now rnd).canFetch = true := (State.canFetch_iff _).2 hp
  have hw : (s.swept now rnd).fetchWord = s.fetchWord :=
    State.fetchWord_congr (State.swept_mem s now rnd) (State.swept_params s now rnd) (State.swept_PC s now rnd)
  unfold State.stepCommand
  rw [if_pos hr, ← State.swept, State.fetchAndRun, if_pos hc, hw]

/-- `step` while RUNNING with `PC` beyond the last fetch (R285). -/
theorem State.stepCommand_beyond (s : State) (now : Nat) (rnd : Byte) (hr : s.running = true) (hp : 4094 < s.PC.toNat) :
    s.stepCommand now rnd = .next ((s.swept now rnd).takeFault .fetchBounds s.PC.toNat) := by
  have hc : ¬ (s.swept now rnd).canFetch = true := fun h => absurd ((State.canFetch_iff _).1 h) (Nat.not_le.2 hp)
  unfold State.stepCommand
  rw [if_pos hr, ← State.swept, State.fetchAndRun, if_neg hc]; rfl

/-- Phases 3 to 6 of a word that decodes to an instruction that answers a next state. -/
theorem State.runWord_ok (s : State) {t : State} {w : Word} {i : Instr} (h : decode w = .ok i)
    (he : exec i s.advancePC = .next t) : s.runWord w = .next t.finish := by
  unfold State.runWord
  simp only [h, he]

/-- Phases 3 to 6 of a word that does not. -/
theorem State.runWord_error (s : State) {w : Word} {e : DecodeError} (h : decode w = .error e) :
    s.runWord w = .next (s.advancePC.reportUnrecognized w s.PC.toNat).finish := by
  unfold State.runWord
  rw [h]

/-- A step whose next command is `step`. -/
theorem step_step (s : State) {now : Nat} {rnd : Byte} (h : s.nextCommand = .step now rnd) :
    step s = s.dequeue.begin.stepCommand now rnd := by
  rw [step_eq, h]; rfl

end Sys2Proof.Machine
end

