-- ==== Sys2Proof/Tests/Slice0.lean ====
section
/-! SUPPORT. The model's own tests: the vectors of 95_test_vectors, and a witness for the hypotheses of every statement that
has some. Vectors are named as that file names them. -/

namespace Sys2Proof.Tests
open Sys2Proof.Machine

/-! ### Helpers -/

/-- The start state of the vectors: reset, the word at 0x200, RUNNING, one `step(now, rnd)` queued. -/
def at200 (w : Nat) (now : Nat := 0) (rnd : Byte := 0) : State :=
  { State.reset.withFetchWord 16 w with pending := [.step now rnd] }

/-- Does a property hold after one step? -/
def after (s : State) (p : State → Bool) : Bool :=
  match step s with
  | .next t => p t
  | .fault _ => false
  | .refused _ => false

/-- Does a property hold after one command given to the reset state? -/
def afterCommand (s : State) (c : Command) (p : State → Bool) : Bool := after { s with pending := [c] } p

/-- Does the word decode to the instruction? -/
def decodesTo (w : Nat) (i : Instr) : Bool := decodeTableWord 16 w == some i

/-- Is the word unrecognized? -/
def unrecognized (w : Word) : Bool :=
  match decode w with
  | .ok _ => false
  | .error e => e == .unrecognizedOpcode w

/-- The state with key `k` pressed since `t`. -/
def pressedAt (s : State) (k : Fin 16) (t : Nat) : State :=
  { s with key := s.key.set k.val true, stamp := s.stamp.set k.val t }

/-- The state with one framebuffer pixel on. -/
def lit (s : State) (px : Fin 64) (py : Fin 32) : State := { s with FB := s.FB.flip py px }

/-! ### Well-formedness: the one check there is (43_display_blitter R201) -/

theorem test_wellFormed_refuses_16_rows : Instr.wellFormed (.drw 0 0 16) = false := by decide
theorem test_wellFormed_accepts_15_rows : Instr.wellFormed (.drw 0 0 15) = true := by decide

/-! ### Decoding: one word of every row of 30_encoding R95, written out from its encoding, with distinct fields -/

theorem test_decode_cls : decodesTo 0x00E0 .cls = true := by decide
theorem test_decode_ret : decodesTo 0x00EE .ret = true := by decide
theorem test_decode_jp : decodesTo 0x1ABC (.jp 0xABC) = true := by decide
theorem test_decode_call : decodesTo 0x2ABC (.call 0xABC) = true := by decide
theorem test_decode_seByte : decodesTo 0x3A42 (.seByte 10 0x42) = true := by decide
theorem test_decode_sneByte : decodesTo 0x4A42 (.sneByte 10 0x42) = true := by decide
theorem test_decode_seReg : decodesTo 0x5120 (.seReg 1 2) = true := by decide
theorem test_decode_ldByte : decodesTo 0x6F12 (.ldByte 15 0x12) = true := by decide
theorem test_decode_addByte : decodesTo 0x7101 (.addByte 1 0x01) = true := by decide
theorem test_decode_ldReg : decodesTo 0x8120 (.ldReg 1 2) = true := by decide
theorem test_decode_orReg : decodesTo 0x8121 (.orReg 1 2) = true := by decide
theorem test_decode_andReg : decodesTo 0x8122 (.andReg 1 2) = true := by decide
theorem test_decode_xorReg : decodesTo 0x8123 (.xorReg 1 2) = true := by decide
theorem test_decode_addReg : decodesTo 0x8124 (.addReg 1 2) = true := by decide
theorem test_decode_sub : decodesTo 0x8125 (.sub 1 2) = true := by decide
theorem test_decode_shr : decodesTo 0x8126 (.shr 1 2) = true := by decide
theorem test_decode_subn : decodesTo 0x8127 (.subn 1 2) = true := by decide
theorem test_decode_shl : decodesTo 0x812E (.shl 1 2) = true := by decide
theorem test_decode_sneReg : decodesTo 0x9120 (.sneReg 1 2) = true := by decide
theorem test_decode_ldI : decodesTo 0xA123 (.ldI 0x123) = true := by decide
theorem test_decode_jpV0 : decodesTo 0xBFFF (.jpV0 0xFFF) = true := by decide
theorem test_decode_rnd : decodesTo 0xC10F (.rnd 1 0x0F) = true := by decide
theorem test_decode_drw : decodesTo 0xD125 (.drw 1 2 5) = true := by decide
theorem test_decode_skp : decodesTo 0xE19E (.skp 1) = true := by decide
theorem test_decode_sknp : decodesTo 0xE1A1 (.sknp 1) = true := by decide
theorem test_decode_ldVxDT : decodesTo 0xF107 (.ldVxDT 1) = true := by decide
theorem test_decode_ldVxK : decodesTo 0xF10A (.ldVxK 1) = true := by decide
theorem test_decode_ldDTVx : decodesTo 0xF115 (.ldDTVx 1) = true := by decide
theorem test_decode_ldSTVx : decodesTo 0xF118 (.ldSTVx 1) = true := by decide
theorem test_decode_addI : decodesTo 0xF11E (.addI 1) = true := by decide
theorem test_decode_ldF : decodesTo 0xF129 (.ldF 1) = true := by decide
theorem test_decode_ldB : decodesTo 0xF133 (.ldB 1) = true := by decide
theorem test_decode_storeRegs : decodesTo 0xF255 (.storeRegs 2) = true := by decide
theorem test_decode_loadRegs : decodesTo 0xF265 (.loadRegs 2) = true := by decide

/-- 95_test_vectors section 2: words that match no row, of families 0, 5, 8 and 9. -/
theorem test_unrecognized_low : [0x0000, 0x00E1, 0x0123, 0x0FFF, 0x5121, 0x8128, 0x812F, 0x9121].all unrecognized = true := by
  decide
/-- 95_test_vectors section 2: words that match no row, of families E and F. -/
theorem test_unrecognized_high : [0xE19F, 0xE100, 0xF0FF, 0xF100, 0xF175].all unrecognized = true := by decide

/-- R90: fewer than two bytes are no instruction. -/
theorem test_truncated : decodeBytes [0x12] = .error (.truncated 1) := by decide

/-- R95: no two rows of the table share a word: some bit both fix, they fix differently. -/
theorem test_rows_disjoint :
    opcodeTable.Pairwise (fun r q => r.mask &&& q.mask &&& (r.pattern ^^^ q.pattern) ≠ 0) := by decide

/-! ### Control flow (95_test_vectors section 3) -/

/-- CF1. -/
theorem test_jp : after (at200 0x1ABC) (fun t => t.PC = 0xABC) = true := by decide
/-- CF3. -/
theorem test_call : after (at200 0x2ABC) (fun t => t.PC = 0xABC && t.SP = 1 && t.stack[0] = 0x202) = true := by decide
/-- CF4. -/
theorem test_call_full : after { at200 0x2ABC with SP := 16 }
    (fun t => t.result = .fault .stackOverflow 0x202 && t.PC = 0x202 && t.SP = 16 && t.stack[15] = 0) = true := by decide
/-- CF5. -/
theorem test_ret : after { at200 0x00EE with SP := 1, stack := State.reset.stack.set 0 0x456 }
    (fun t => t.PC = 0x456 && t.SP = 0 && t.stack[0] = 0x456) = true := by decide
/-- CF6 and T21. -/
theorem test_ret_empty : after { at200 0x00EE with DT := 5, ST := 5, sounding := true }
    (fun t => t.result = .fault .stackUnderflow 0x202 && t.PC = 0x202 && t.DT = 5 && t.ST = 5 && t.events = []) = true := by
  decide
/-- CF7. -/
theorem test_jpV0 : after ((at200 0xB300).setV 0 0x10) (fun t => t.PC = 0x310) = true := by decide
/-- CF8. -/
theorem test_jpV0_not_masked : after ((at200 0xBFFF).setV 0 0xFF) (fun t => t.PC = 0x10FE) = true := by decide
/-- CF9. -/
theorem test_seByte_skips : after ((at200 0x3A42).setV 10 0x42) (fun t => t.PC = 0x204) = true := by decide
/-- CF10. -/
theorem test_seByte_falls : after ((at200 0x3A42).setV 10 0x41) (fun t => t.PC = 0x202) = true := by decide
/-- CF11. -/
theorem test_sneByte_falls : after ((at200 0x4A42).setV 10 0x42) (fun t => t.PC = 0x202) = true := by decide
/-- CF12. -/
theorem test_sneByte_skips : after ((at200 0x4A42).setV 10 0x41) (fun t => t.PC = 0x204) = true := by decide
/-- CF13. -/
theorem test_seReg_skips : after (((at200 0x5120).setV 1 7).setV 2 7) (fun t => t.PC = 0x204) = true := by decide
/-- CF14. -/
theorem test_seReg_falls : after (((at200 0x5120).setV 1 7).setV 2 8) (fun t => t.PC = 0x202) = true := by decide
/-- CF16. -/
theorem test_sneReg_falls : after (((at200 0x9120).setV 1 7).setV 2 7) (fun t => t.PC = 0x202) = true := by decide
/-- CF17. -/
theorem test_sneReg_skips : after (((at200 0x9120).setV 1 7).setV 2 8) (fun t => t.PC = 0x204) = true := by decide

/-! ### Load and ALU (section 4) -/

/-- A2. -/
theorem test_ldByte : after (at200 0x6F12) (fun t => t.getV 15 = 0x12 && t.PC = 0x202) = true := by decide
/-- A3, S2. -/
theorem test_addByte_wraps : after (((at200 0x7101).setV 1 0xFF).setV 15 0x55)
    (fun t => t.getV 1 = 0 && t.getV 15 = 0x55) = true := by decide
/-- A5. -/
theorem test_ldReg : after (((at200 0x8120).setV 1 1).setV 2 2) (fun t => t.getV 1 = 2 && t.getV 2 = 2) = true := by decide
/-- A6. -/
theorem test_orReg : after ((((at200 0x8121).setV 1 0x0F).setV 2 0xF0).setV 15 0x55)
    (fun t => t.getV 1 = 0xFF && t.getV 15 = 0x55) = true := by decide
/-- A7. -/
theorem test_andReg : after ((((at200 0x8122).setV 1 0x3C).setV 2 0x0F).setV 15 0x55)
    (fun t => t.getV 1 = 0x0C && t.getV 15 = 0x55) = true := by decide
/-- A8. -/
theorem test_xorReg : after ((((at200 0x8123).setV 1 0x3C).setV 2 0x0F).setV 15 0x55)
    (fun t => t.getV 1 = 0x33 && t.getV 15 = 0x55) = true := by decide
/-- A11. -/
theorem test_addReg_255 : after ((((at200 0x8124).setV 1 0xFE).setV 2 1).setV 15 1)
    (fun t => t.getV 1 = 0xFF && t.getV 15 = 0) = true := by decide
/-- A14. -/
theorem test_addReg_into_flag : after (((at200 0x8F14).setV 15 0xFF).setV 1 2) (fun t => t.getV 15 = 1) = true := by decide
/-- A17, S4. -/
theorem test_sub_borrows : after (((at200 0x8125).setV 1 3).setV 2 5)
    (fun t => t.getV 1 = 0xFE && t.getV 15 = 0) = true := by decide
/-- A18. -/
theorem test_sub_equal : after ((((at200 0x8125).setV 1 5).setV 2 5).setV 15 1)
    (fun t => t.getV 1 = 0 && t.getV 15 = 0) = true := by decide
/-- A21. -/
theorem test_shr : after (((at200 0x8126).setV 1 5).setV 2 0xFF)
    (fun t => t.getV 1 = 2 && t.getV 15 = 1 && t.getV 2 = 0xFF) = true := by decide
/-- A22. -/
theorem test_shr_clears : after (((at200 0x8126).setV 1 4).setV 15 1)
    (fun t => t.getV 1 = 2 && t.getV 15 = 0) = true := by decide
/-- A24. -/
theorem test_subn : after (((at200 0x8127).setV 1 3).setV 2 5)
    (fun t => t.getV 1 = 2 && t.getV 15 = 1 && t.getV 2 = 5) = true := by decide
/-- A26. -/
theorem test_subn_equal : after ((((at200 0x8127).setV 1 5).setV 2 5).setV 15 1)
    (fun t => t.getV 1 = 0 && t.getV 15 = 0) = true := by decide
/-- A27. -/
theorem test_shl : after ((at200 0x812E).setV 1 0x81) (fun t => t.getV 1 = 2 && t.getV 15 = 1) = true := by decide
/-- A29. -/
theorem test_shl_into_flag : after ((at200 0x8FFE).setV 15 0xC0) (fun t => t.getV 15 = 1) = true := by decide
/-- A30. -/
theorem test_rnd : after (at200 0xC10F 0 0xA7) (fun t => t.getV 1 = 7) = true := by decide

/-! ### Index and memory (section 5) -/

/-- M1. -/
theorem test_ldI : after (at200 0xA123) (fun t => t.I = 0x123) = true := by decide
/-- M3. -/
theorem test_addI_no_flag : after { ((at200 0xF11E).setV 1 1).setV 15 0x55 with I := 0xFFF }
    (fun t => t.I = 0x1000 && t.getV 15 = 0x55) = true := by decide
/-- M4. -/
theorem test_addI_wraps : after { (at200 0xF11E).setV 1 2 with I := 0xFFFF } (fun t => t.I = 1) = true := by decide
/-- M5. -/
theorem test_ldF : after ((at200 0xF129).setV 1 0x0A) (fun t => t.I = 0x82) = true := by decide
/-- M7. -/
theorem test_ldF_outside : after ((at200 0xF129).setV 1 0xFF) (fun t => t.I = 0x54B) = true := by decide
/-- M10. -/
theorem test_ldB : after { (at200 0xF133).setV 1 0xFF with I := 0xFFD }
    (fun t => t.readByte 0xFFD = 2 && t.readByte 0xFFE = 5 && t.readByte 0xFFF = 5 && t.I = 0xFFD) = true := by decide
/-- M11. -/
theorem test_ldB_beyond : after { (at200 0xF133).setV 1 0xFF with I := 0xFFE, DT := 9 }
    (fun t => t.result = .fault .memWriteBounds 0xFFE && t.readByte 0xFFE = 0 && t.PC = 0x202 && t.DT = 9) = true := by
  decide
/-- M12. -/
theorem test_storeRegs : after { ((((at200 0xF255).setV 0 0x11).setV 1 0x22).setV 2 0x33).setV 3 0x44 with I := 0x300 }
    (fun t => t.readBytes 0x300 4 = [0x11, 0x22, 0x33, 0] && t.I = 0x303) = true := by decide
/-- M14. -/
theorem test_storeRegs_beyond : after { ((at200 0xF155).setV 0 0x11).setV 1 0x22 with I := 0xFFF }
    (fun t => t.result = .fault .memWriteBounds 0xFFF && t.readByte 0xFFF = 0 && t.I = 0xFFF) = true := by decide
/-- M16. -/
theorem test_loadRegs : after { (at200 0xF265).setV 3 0x99 with I := 0x50 }
    (fun t => t.getV 0 = 0xF0 && t.getV 2 = 0x90 && t.getV 3 = 0x99 && t.I = 0x53) = true := by decide
/-- M19. -/
theorem test_loadRegs_itself : after { at200 0xFF65 with I := 0x200 }
    (fun t => t.getV 0 = 0xFF && t.getV 1 = 0x65 && t.getV 2 = 0 && t.getV 15 = 0 && t.I = 0x210) = true := by decide

/-! ### Display (section 6), by `exec`: the flush that follows is tested on its own -/

/-- The state after an instruction. -/
def execute (i : Instr) (s : State) (p : State → Bool) : Bool :=
  match exec i s with
  | .next t => p t
  | .fault _ => false
  | .refused _ => false

/-- D4. -/
theorem test_drw_wraps : execute (.drw 0 1 1)
    { ((State.reset.writeByte 0x300 0x81).setV 0 0xFF).setV 1 0xFF with I := 0x300 }
    (fun t => t.FB.pixel 31 63 && t.FB.pixel 31 6 && !t.FB.pixel 31 0 && t.getV 15 = 0 && t.dirty) = true := by decide
/-- D9. -/
theorem test_drw_collides : execute (.drw 0 1 1)
    { lit (lit (State.reset.writeByte 0x300 0xC0) 1 0) 5 0 with I := 0x300 }
    (fun t => t.FB.pixel 0 0 && !t.FB.pixel 0 1 && t.FB.pixel 0 5 && t.getV 15 = 1) = true := by decide
/-- D14. -/
theorem test_cls : after ((lit (at200 0x00E0) 4 3).setV 15 1)
    (fun t => t.FB = Frame.clear && t.getV 15 = 1 && !t.dirty) = true := by decide
/-- R207, R208: the first pixel is reported with its state and the scale. -/
theorem test_flush : (lit State.reset 0 0).pixelEvents[0]? = some (.pixel 0 0 1 true) := by decide

/-! ### Keypad (section 7) -/

/-- K8. -/
theorem test_skp_at_200_ms : after (pressedAt ((at200 0xE19E 1200).setV 1 5) 5 1000)
    (fun t => t.PC = 0x204 && t.key[5]) = true := by decide
/-- K9. -/
theorem test_skp_at_201_ms : after (pressedAt ((at200 0xE19E 1201).setV 1 5) 5 1000)
    (fun t => t.PC = 0x202 && !t.key[5]) = true := by decide
/-- K11. -/
theorem test_sknp_at_201_ms : after (pressedAt ((at200 0xE1A1 1201).setV 1 5) 5 1000)
    (fun t => t.PC = 0x204 && !t.key[5]) = true := by decide
/-- K15. -/
theorem test_sknp_no_key : after ((at200 0xE1A1).setV 1 0xFF)
    (fun t => t.result = .fault .keyIndexRange 0xFF && t.PC = 0x202) = true := by decide
/-- K16. -/
theorem test_ldVxK : after (pressedAt ((at200 0xF10A 10).setV 1 0x77) 3 0)
    (fun t => t.getV 1 = 0x77 && t.PC = 0x202 && t.key[3] && t.events = []) = true := by decide
/-- K1. -/
theorem test_press : afterCommand State.reset (.press ['Q'] 5)
    (fun t => t.key[4] && t.stamp[4] = 5 && t.result = .ok) = true := by decide
/-- K2. -/
theorem test_release : afterCommand (pressedAt State.reset 4 5) (.release ['Q'])
    (fun t => !t.key[4] && t.stamp[4] = 5 && t.result = .ok) = true := by decide
/-- K3. -/
theorem test_press_unknown : afterCommand State.reset (.press ['q'] 5)
    (fun t => t.key = State.reset.key && t.clock = 0 && t.result = .invalid .unknownKeySymbol ['q']) = true := by decide
/-- K17. -/
theorem test_stopped_no_sweep : afterCommand (pressedAt State.reset 5 1000) (.step 5000 0)
    (fun t => t.result = .stopped && t.key[5] && t.clock = 0 && t.PC = 0x200) = true := by decide

/-! ### Timers (section 8) -/

/-- T13. -/
theorem test_ldDTVx : after ((at200 0xF115).setV 1 0xFF) (fun t => t.DT = 0xFE && t.events = []) = true := by decide
/-- T14. -/
theorem test_ldVxDT : after { at200 0xF107 with DT := 0x10 } (fun t => t.getV 1 = 0x10 && t.DT = 0x0F) = true := by decide
/-- T17. -/
theorem test_ldSTVx_one : after ((at200 0xF118).setV 1 1)
    (fun t => t.ST = 0 && !t.sounding && t.events = [.audio true, .audio false]) = true := by decide
/-- T19. -/
theorem test_ldSTVx_cuts : after { at200 0xF118 with ST := 5, sounding := true }
    (fun t => t.ST = 0 && !t.sounding && t.events = [.audio false]) = true := by decide

/-! ### The step and the commands (sections 2, 3 and 9) -/

/-- Section 2: an unrecognized word in a step. -/
theorem test_diag : after { at200 0x5121 with DT := 5 }
    (fun t => t.PC = 0x202 && t.result = .ok && t.events = [.diag .unrecognizedOpcode 0x5121 0x200] && t.DT = 4) = true := by
  decide
/-- CF18. -/
theorem test_fetch_beyond : after { at200 0x6000 with PC := 0xFFF, DT := 5 }
    (fun t => t.result = .fault .fetchBounds 0xFFF && t.PC = 0xFFF && t.DT = 5) = true := by decide
/-- CF19. -/
theorem test_last_fetch : after { at200 0x6000 with PC := 0xFFE }
    (fun t => t.events = [.diag .unrecognizedOpcode 0x0000 0xFFE] && t.PC = 0x1000) = true := by decide
/-- F3: a short program leaves the bytes after it. -/
theorem test_loadProgram : afterCommand State.reset (.loadProgram [0x12, 0xAB])
    (fun t => t.readBytes 0x1FF 4 = [0, 0x12, 0xAB, 0] && t.result = .ok && !t.running) = true := by decide
/-- F3: a program one byte too long. -/
theorem test_loadProgram_beyond : State.reset.loadProgram (List.replicate 3585 0xAB) =
    State.reset.takeFault .loadBounds 3585 := by
  unfold State.loadProgram
  rw [if_neg (by rw [List.length_replicate]; decide), List.length_replicate]
/-- R288, R40. -/
theorem test_reset : afterCommand { (at200 0x6A42).setV 3 9 with DT := 4, sounding := true } .reset
    (fun t => t.mem = [] && t.getV 3 = 0 && t.DT = 0 && !t.sounding && t.PC = 0x200 && t.events = []) = true := by decide
/-- R283. -/
theorem test_start : afterCommand State.reset .start (fun t => t.running && t.PC = 0x200) = true := by decide
/-- R283. -/
theorem test_stop : afterCommand (at200 0x6000) .stop (fun t => !t.running && t.PC = 0x200) = true := by decide
/-- R40, R67, R68: memory after reset, at the edges of the font. -/
theorem test_reset_memory : State.reset.readByte 0x4F = 0 ∧ State.reset.readBytes 0x50 5 = [0xF0, 0x90, 0x90, 0x90, 0xF0] ∧
    State.reset.readByte 0x9F = 0x80 ∧ State.reset.readByte 0xA0 = 0 := by decide
/-- Log 7: writing what an unlisted address reads as leaves nothing listed. -/
theorem test_write_canonical : (State.reset.writeByte 0x50 0xF0).mem = [] ∧
    ((State.reset.writeByte 0x300 1).writeByte 0x200 2).mem = [(0x200, 2), (0x300, 1)] ∧
    (State.reset.writeByte 0x1000 1).mem = [] := by decide
/-- R321: the codes of the causes. -/
theorem test_causeCodes : [Cause.unrecognizedOpcode, .memWriteBounds, .stackOverflow, .stackUnderflow, .loadBounds,
    .unknownKeySymbol, .fetchBounds, .memReadBounds, .keyIndexRange].map causeCode = [1, 2, 3, 4, 5, 6, 7, 8, 9] := by decide
/-- Log 11: the word placed for the next step is the one it runs, with no command queued. -/
theorem test_withFetchWord : after (State.reset.withFetchWord 16 0x6A42)
    (fun t => t.getV 10 = 0x42 && t.PC = 0x202) = true := by decide

/-! ### Witnesses: the hypotheses of each statement, met together, each clause at the edge of its range -/

theorem witness_DecodeOfEncode : Instr.wellFormed (.drw 15 15 15) = true := by decide
theorem witness_EncodeOfDecode : decode 0xDFFF = .ok (.drw 15 15 15) := by decide
theorem witness_UnrecognizedWordsByFamily : unrecognized 0x0000 ∧ unrecognized 0x9001 ∧ unrecognized 0x800F ∧
    unrecognized 0xE09F ∧ unrecognized 0xF066 ∧ unrecognized 0xD000 = false := by decide
theorem witness_CallPushesAndJumps : ({ State.reset with SP := 15 } : State).SP.val < 16 ∧
    ({ State.reset with SP := 16 } : State).SP.val = 16 := by decide
theorem witness_ReturnPopsIntoPC : 0 < ({ State.reset with SP := 1 } : State).SP.val ∧ State.reset.SP.val = 0 := by decide
theorem witness_ReturnGoesAfterItsCall : ({ State.reset with SP := 15 } : State).SP.val < 16 := by decide
theorem witness_result_and_flag_registers : (14 : Reg) ≠ 15 ∧ (0 : Reg) ≠ 14 ∧ (0 : Reg) ≠ 15 := by decide
theorem witness_VfChangesOnlyAsFlagOrByName : ∃ t, exec (.addReg 1 2) (((State.reset).setV 1 0xFF).setV 2 1) = .next t ∧
    t.getV vf ≠ (((State.reset).setV 1 0xFF).setV 2 1).getV vf := ⟨_, rfl, by decide⟩
theorem witness_StoreDecimalDigits : ({ State.reset with I := 4093 } : State).I.toNat ≤ 4093 ∧
    4093 < ({ State.reset with I := 4094 } : State).I.toNat := by decide
theorem witness_StoreRegistersFromIndex : ({ State.reset with I := 4080 } : State).I.toNat + (15 : Reg).val ≤ 4095 ∧
    4095 < ({ State.reset with I := 4081 } : State).I.toNat + (15 : Reg).val := by decide
theorem witness_LoadRegistersFromIndex : ({ State.reset with I := 4095 } : State).I.toNat + (0 : Reg).val ≤ 4095 ∧
    4095 < ({ State.reset with I := 4096 } : State).I.toNat + (0 : Reg).val := by decide
theorem witness_StoredRegistersLoadBack : ({ State.reset with I := 4080 } : State).I.toNat + (15 : Reg).val ≤ 4095 := by
  decide
theorem witness_CanonicalMemoriesAreEqual : Memory.wf defaultParams [(0x300, 1), (4095, 2)] ∧
    ∀ a, a ≤ 4095 → Memory.read defaultParams [(0x300, 1), (4095, 2)] a = Memory.read defaultParams [(0x300, 1), (4095, 2)] a :=
  ⟨by decide, fun _ _ => rfl⟩
theorem witness_DrawXorsTheSprite : (15 ≤ 15 ∧ ({ State.reset with I := 4081 } : State).I.toNat + 15 - 1 ≤ 4095) ∧
    (0 ≤ 15 ∧ (0 = 0 ∨ ({ State.reset with I := 0xFFFF } : State).I.toNat + 0 - 1 ≤ 4095)) := by decide
theorem witness_DrawOfNoRowsAndBeyondMemory : (0 < 1 ∧ 4095 < ({ State.reset with I := 4096 } : State).I.toNat + 1 - 1) ∧
    0 < 15 ∧ 4095 < ({ State.reset with I := 4082 } : State).I.toNat + 15 - 1 := by decide
theorem witness_DrawingTwiceRestoresTheFramebuffer : State.reset.I.toNat + 1 - 1 ≤ 4095 ∧
    ∃ t, exec (.drw 0 1 1) State.reset = .next t ∧ t.getV 0 = State.reset.getV 0 ∧ t.getV 1 = State.reset.getV 1 :=
  ⟨by decide, _, rfl, by decide, by decide⟩
theorem witness_DrawingTwiceRestoresTheFramebuffer_clear : ∀ py : Fin 32, ∀ px : Fin 64,
    State.reset.FB.pixel py px = false := by
  intro py px
  simp [Frame.pixel, State.reset, State.construct]
/-- R195, R196 and R199 against R202's clause: with both sprite pixels lit before, the first draw collides and darkens them, and
the second relights them without a collision (log 21). -/
theorem witness_DrawingTwiceRestoresTheFramebuffer_lit : execute (.drw 0 1 1)
    { lit (lit (State.reset.writeByte 0x300 0xC0) 0 0) 1 0 with I := 0x300 }
    (fun t => t.getV 15 = 1 && !t.FB.pixel 0 0 && !t.FB.pixel 0 1 && execute (.drw 0 1 1) t
      (fun u => u.getV 15 = 0 && u.FB.pixel 0 0 && u.FB.pixel 0 1)) = true := by decide
theorem witness_FlushReportsEveryPixelOnce : ({ State.reset with dirty := true } : State).dirty = true ∧
    State.reset.dirty = false := by decide
theorem witness_PressAndReleaseActOnOneKey : keyCode ['Z'] = some 0 ∧ keyCode ['C'] = some 15 ∧ keyCode ['z'] = none ∧ keyCode [] = none ∧ keyCode ['1', '2'] = none := by decide
theorem witness_KeySkipsTestTheKey : (((State.reset).setV 1 15).getV 1).toNat = (15 : Fin 16).val ∧
    15 < (((State.reset).setV 1 16).getV 1).toNat := by decide
theorem witness_KeySkipSeesTheSweep :
    (pressedAt ((at200 0xE19E 1200).setV 1 5) 5 1000).nextCommand = .step 1200 0 ∧
    (pressedAt ((at200 0xE19E 1200).setV 1 5) 5 1000).running = true ∧
    (pressedAt ((at200 0xE19E 1200).setV 1 5) 5 1000).PC.toNat ≤ 4094 ∧
    decode (pressedAt ((at200 0xE19E 1200).setV 1 5) 5 1000).wordAtPC = .ok (.skp 1) ∧
    ((pressedAt ((at200 0xE19E 1200).setV 1 5) 5 1000).getV 1).toNat = (5 : Fin 16).val ∧
    (pressedAt ((at200 0xE19E 1200).setV 1 5) 5 1000).key[5] = true := by decide
theorem witness_SoundClauseSixCases : State.reset.ST.toNat = 0 ∧ State.reset.sounding = false ∧
    2 ≤ ({ State.reset with ST := 2, sounding := true } : State).ST.toNat ∧
    ({ State.reset with ST := 1, sounding := true } : State).ST.toNat = 1 := by decide
theorem witness_SoundIsSwitchedOnOnceAndOffOnce : 0 < ({ State.reset with ST := 2 } : State).ST.toNat ∧
    ({ State.reset with ST := 2 } : State).sounding = false ∧ 1 < ({ State.reset with ST := 2 } : State).ST.toNat ∧
    ({ State.reset with ST := 2 } : State).ST.toNat ≤ 2 := by decide
theorem witness_TimerWriteTicksInItsOwnStep : (at200 0xF115).nextCommand = .step 0 0 ∧ (at200 0xF115).running = true ∧
    (at200 0xF115).PC.toNat ≤ 4094 ∧ decode (at200 0xF115).wordAtPC = .ok (.ldDTVx 1) ∧
    (at200 0xF118).nextCommand = .step 0 0 ∧ (at200 0xF118).running = true ∧ (at200 0xF118).PC.toNat ≤ 4094 ∧
    decode (at200 0xF118).wordAtPC = .ok (.ldSTVx 1) := by decide
theorem witness_StepRunsTheDecodedInstruction : (at200 0x1ABC).nextCommand = .step 0 0 ∧ (at200 0x1ABC).running = true ∧
    (at200 0x1ABC).PC.toNat ≤ 4094 ∧ decode (at200 0x1ABC).wordAtPC = .ok (.jp 0xABC) := by decide
theorem witness_StepReportsAnUnrecognizedWord : (at200 0).nextCommand = .step 0 0 ∧ (at200 0).running = true ∧
    (at200 0).PC.toNat ≤ 4094 ∧ decode (at200 0).wordAtPC = .error (.unrecognizedOpcode 0) := by decide
theorem witness_StepBeyondMemoryFaults : ({ at200 0 with PC := 4095 } : State).nextCommand = .step 0 0 ∧
    ({ at200 0 with PC := 4095 } : State).running = true ∧ 4094 < ({ at200 0 with PC := 4095 } : State).PC.toNat := by decide
theorem witness_StoppedStepDoesNothing : ({ State.reset with pending := [.step 7 9] } : State).nextCommand = .step 7 9 ∧
    State.reset.running = false := by decide
theorem witness_StepTakesTheNextCommand : ({ State.reset with pending := [.start] } : State).pending = .start :: [] ∧
    State.reset.pending = [] := by decide
theorem witness_FaultsArePreciseAndFromTheTable : State.reset.result = .ok ∧
    faultOf .ret State.reset = some (.stackUnderflow, 0x200) ∧ faultOf .cls State.reset = none ∧
    faultOf (.call 0) { State.reset with SP := 16 } = some (.stackOverflow, 0x200) ∧
    faultOf (.ldB 0) { State.reset with I := 4094 } = some (.memWriteBounds, 4094) ∧
    faultOf (.storeRegs 15) { State.reset with I := 4081 } = some (.memWriteBounds, 4081) ∧
    faultOf (.loadRegs 15) { State.reset with I := 4081 } = some (.memReadBounds, 4081) ∧
    faultOf (.drw 0 0 1) { State.reset with I := 4096 } = some (.memReadBounds, 4096) ∧
    faultOf (.skp 1) (State.reset.setV 1 16) = some (.keyIndexRange, 16) := by decide
theorem witness_FaultingStepIsCutShort : (at200 0x00EE).nextCommand = .step 0 0 ∧ (at200 0x00EE).running = true ∧
    (at200 0x00EE).PC.toNat ≤ 4094 ∧ decode (at200 0x00EE).wordAtPC = .ok .ret ∧
    faultOf .ret { (at200 0x00EE).atFetch 0 0 with PC := (at200 0x00EE).PC + 2 } = some (.stackUnderflow, 0x202) := by decide
theorem witness_RunStateChangesOnlyByCommand : ∃ t, State.reset.command .start = .next t := ⟨_, rfl⟩
theorem witness_LoadProgramWritesItsBytesAlone : (List.replicate 3584 (0xAB : Byte)).length ≤ 3584 ∧
    3584 < (List.replicate 3585 (0xAB : Byte)).length := by
  rw [List.length_replicate, List.length_replicate]; decide
theorem witness_ResetThenLoadEqualsFreshLoad : ([0x12, 0xAB] : List Byte).length ≤ 3584 := by decide
theorem witness_InstructionsLeaveHostStateAndMemoryAlone : ∃ t, exec (.jp 0xABC) State.reset = .next t := ⟨_, rfl⟩
theorem witness_OnlyRandomReadsTheDraw : (∀ x nn, Instr.jp 0xABC ≠ .rnd x nn) ∧
    ∃ t, exec (.jp 0xABC) State.reset = .next t := ⟨fun _ _ h => Instr.noConfusion h, _, rfl⟩
theorem witness_StepKeepsTheInvariant : (at200 0x1ABC).Inv ∧ after (at200 0x1ABC) (fun _ => true) = true :=
  ⟨⟨by decide, by decide, by decide, by decide, by decide⟩, by decide⟩
theorem witness_StepKeepsTheClockOrder : (pressedAt { at200 0x1ABC 1200 with clock := 1000 } 5 1000).ClockOk ∧
    after (pressedAt { at200 0x1ABC 1200 with clock := 1000 } 5 1000) (fun _ => true) = true :=
  ⟨⟨⟨by decide, trivial⟩, by decide⟩, by decide⟩
theorem witness_EveryRunKeepsTheInvariant : Reachable State.reset := .construct defaultParams []

end Sys2Proof.Tests
end

section
/-! PROOF. The statements of 10_state: what an instruction can have done, said once by shape (`ExecEffect`), and from it
the frame of every instruction (R22, R36, R69) and the invariants of the machine between commands (R24, R25, R210, R253). -/

namespace Sys2Proof.Machine

/-! ### What an instruction can have done -/

/-- The shapes of the next state of `exec i s`, with what the proofs below need to know of the values written. -/
inductive ExecEffect (s : State) (i : Instr) : State → Prop where
  /-- `Fx0A` (R234). -/
  | same : ExecEffect s i s
  /-- A fault of R321: only the result is written (R326). -/
  | fault (c : Cause) (n : Nat) : ExecEffect s i (s.takeFault c n)
  /-- `1nnn`, `Bnnn` (R120, R127). -/
  | jump (a : Word) (ha : a.toNat ≤ 0x10FE) : ExecEffect s i (s.setPC a)
  /-- `2nnn` with room on the stack (R121). -/
  | call (a : Word) (ha : a.toNat ≤ 0x10FE) (room : s.SP.val < 16) : ExecEffect s i ((s.push s.PC).setPC a)
  /-- `00EE` with an entry on the stack (R122). -/
  | ret (a : Word) (ha : s.stackTop = some a) : ExecEffect s i (s.dropTop.setPC a)
  /-- The skips (R123 to R126, R232, R233). -/
  | skip (taken : Bool) : ExecEffect s i (s.skipIf taken)
  /-- `Annn`, `Fx1E`, `Fx29` (R171 to R173). -/
  | setIndex (v : Word) : ExecEffect s i (s.setI v)
  /-- `Fx15` (R260). -/
  | setDelay (v : Byte) : ExecEffect s i (s.setDT v)
  /-- `Fx18` (R261). -/
  | setSound (v : Byte) : ExecEffect s i (s.setST v)
  /-- One register named as destination. -/
  | setReg (x : Reg) (v : Byte) (names : x = vf → namesVf i = true) : ExecEffect s i (s.setV x v)
  /-- A result and the flag of `8xy4` to `8xy7`, `8xyE` (R143). -/
  | flagged (x : Reg) (r : Byte) (b : Bool) (writes : writesFlag i = true) :
      ExecEffect s i (s.setResultFlag x r (flagByte b))
  /-- `00E0` (R198). -/
  | clear : ExecEffect s i (s.setFrame Frame.clear)
  /-- `Dxyn` within memory (R199). -/
  | draw (f : Frame) (hit : Bool) (writes : writesFlag i = true) :
      ExecEffect s i ((s.setFrame f).setV vf (flagByte hit))
  /-- `Fx33` within memory (R174). -/
  | storeDigits (x : Reg) (a : Nat) (vs : List Byte) (hi : i = .ldB x) : ExecEffect s i (s.writeBytes a vs)
  /-- `Fx55` within memory (R176). -/
  | storeRegs (x : Reg) (a : Nat) (vs : List Byte) (v : Word) (hi : i = .storeRegs x) :
      ExecEffect s i ((s.writeBytes a vs).setI v)
  /-- `Fx65` within memory (R177). -/
  | loadRegs (x : Reg) (vs : List Byte) (v : Word) (hlen : vs.length = x.val + 1) (names : x = vf → namesVf i = true) :
      ExecEffect s i ((s.setRegs 0 vs).setI v)

theorem zextAddr_toNat_le (nnn : BitVec 12) : (zextAddr nnn).toNat ≤ 0xFFF := by
  have := nnn.isLt
  simp only [zextAddr, BitVec.toNat_setWidth]
  omega

/-- The target of `Bnnn` does not wrap (R24, R127). -/
theorem State.jumpOffset_toNat_le (s : State) (nnn : BitVec 12) : (s.jumpOffset nnn).toNat ≤ 0x10FE := by
  have ha := zextAddr_toNat_le nnn
  have hv : (zextByte (s.getV 0)).toNat ≤ 0xFF := by
    have := (s.getV 0).isLt
    simp only [zextByte, BitVec.toNat_setWidth]
    omega
  rw [State.jumpOffset, BitVec.toNat_add]
  omega

/-- Every next state of `exec` has one of the shapes of `ExecEffect`. -/
theorem exec_effect {i : Instr} {s t : State} (h : exec i s = .next t) : ExecEffect s i t := by
  cases i with
  | cls => cases h; exact .clear
  | ret =>
    simp only [exec, execRet] at h
    split at h
    · cases h; exact .ret _ ‹_›
    · cases h; exact .fault _ _
  | jp nnn => cases h; exact .jump _ ((zextAddr_toNat_le nnn).trans (by decide))
  | call nnn =>
    simp only [exec, execCall] at h
    split at h
    · cases h; exact .call _ ((zextAddr_toNat_le nnn).trans (by decide)) ‹_›
    · cases h; exact .fault _ _
  | jpV0 nnn => cases h; exact .jump _ (s.jumpOffset_toNat_le nnn)
  | seByte | sneByte | seReg | sneReg => cases h; exact .skip _
  | ldByte | addByte | ldReg | orReg | andReg | xorReg | rnd | ldVxDT =>
    cases h; exact .setReg _ _ (fun hx => by simp [namesVf, hx])
  | addReg | sub | shr | subn | shl => cases h; exact .flagged _ _ _ rfl
  | ldI | addI | ldF => cases h; exact .setIndex _
  | drw x y n =>
    simp only [exec, execDrw] at h
    split at h
    · cases h; exact .draw _ _ rfl
    · cases h; exact .fault _ _
  | skp x =>
    simp only [exec, execSkp] at h
    split at h
    · cases h; exact .skip _
    · cases h; exact .fault _ _
  | sknp x =>
    simp only [exec, execSknp] at h
    split at h
    · cases h; exact .skip _
    · cases h; exact .fault _ _
  | ldVxK => cases h; exact .same
  | ldDTVx => cases h; exact .setDelay _
  | ldSTVx => cases h; exact .setSound _
  | ldB x =>
    simp only [exec, execLdB] at h
    split at h
    · cases h; exact .storeDigits x _ _ rfl
    · cases h; exact .fault _ _
  | storeRegs x =>
    simp only [exec, execStoreRegs] at h
    split at h
    · cases h; exact .storeRegs x _ _ _ rfl
    · cases h; exact .fault _ _
  | loadRegs x =>
    simp only [exec, execLoadRegs] at h
    split at h
    · cases h; exact .loadRegs x _ _ (s.length_readBytes _ _) (fun hx => by simp [namesVf, hx])
    · cases h; exact .fault _ _

/-! ### Frames -/

/-- An instruction writes only `mem`, `V`, `I`, `PC`, the stack, the timers, the framebuffer and the result. -/
theorem ExecEffect.frame {s t : State} {i : Instr} (h : ExecEffect s i t) :
    t.key = s.key ∧ t.stamp = s.stamp ∧ t.sounding = s.sounding ∧ t.running = s.running ∧ t.params = s.params ∧
    t.pending = s.pending ∧ t.clock = s.clock ∧ t.draws = s.draws ∧ t.rnd = s.rnd ∧ t.events = s.events := by
  cases h <;> simp

/-- Only `Fx33` and `Fx55` write memory (R69). -/
theorem ExecEffect.mem_eq {s t : State} {i : Instr} (h : ExecEffect s i t) (hB : ∀ x, i ≠ .ldB x)
    (hS : ∀ x, i ≠ .storeRegs x) : t.mem = s.mem := by
  cases h with
  | storeDigits x _ _ hi => exact absurd hi (hB x)
  | storeRegs x _ _ _ hi => exact absurd hi (hS x)
  | _ => simp

/-- Settles O54, from the frame of the shapes and, for memory, the two shapes that write it. -/
theorem instructionsLeaveHostStateAndMemoryAlone : Obligations.InstructionsLeaveHostStateAndMemoryAlone := by
  intro i s t h
  have he := exec_effect h
  obtain ⟨-, -, -, -, hparams, -⟩ := he.frame
  refine ⟨fun hB hS => ?_, he.frame⟩
  have hmem := he.mem_eq hB hS
  exact ⟨hmem, State.readByte_congr hmem hparams⟩

theorem flagByte_zero_or_one (b : Bool) : flagByte b = 0 ∨ flagByte b = 1 := by
  cases b <;> simp [flagByte]

/-- A block load of `V[0]`..`V[x]` reaches `VF` only with `x` = `VF` (R175). -/
theorem State.getV_vf_setRegs (s : State) {x : Reg} {vs : List Byte} (hlen : vs.length = x.val + 1) (hx : x ≠ vf) :
    (s.setRegs 0 vs).getV vf = s.getV vf := by
  have hx' : x.val ≠ 15 := fun h => hx (Fin.ext h)
  have hvf : vf.val = 15 := rfl
  rw [State.getV_setRegs vs s 0 vf (by omega), if_neg (by omega)]

/-- Settles O19: of the shapes an instruction's next state can have, only a flag write, a draw and a write of a named
register change `VF`. -/
theorem vfChangesOnlyAsFlagOrByName : Obligations.VfChangesOnlyAsFlagOrByName := by
  intro i s t h hne
  cases exec_effect h with
  | flagged x r b writes =>
    refine .inl ⟨writes, ?_⟩
    rw [State.getV_setResultFlag, if_pos rfl]
    exact flagByte_zero_or_one b
  | draw f hit writes =>
    refine .inl ⟨writes, ?_⟩
    rw [State.getV_setV, if_pos rfl]
    exact flagByte_zero_or_one hit
  | setReg x v names =>
    by_cases hx : x = vf
    · exact .inr (names hx)
    · exact absurd (by rw [State.getV_setV, if_neg (Ne.symm hx)]) hne
  | loadRegs x vs v hlen names =>
    by_cases hx : x = vf
    · exact .inr (names hx)
    · exact absurd (s.getV_vf_setRegs hlen hx) hne
  | _ => exact absurd (State.getV_congr (by simp) vf) hne

/-! ### The reset table (R40) -/

/-- After `reset` every address reads as the contents of R40. -/
theorem State.readByte_resetCommand (s : State) (a : Nat) : s.resetCommand.readByte a = initByte s.params a := rfl

theorem initByte_outside_font (p : Params) {a : Nat} (h : a < 0x50 ∨ 0xA0 ≤ a) : initByte p a = 0 := by
  exact if_neg (by simp only [Config.fontBase_eq, Config.fontLen_eq]; omega)

/-- Row `j` of glyph `g` stands at `0x50 + 5g + j` (R68). -/
theorem initByte_glyph (p : Params) (g : Fin 16) (j : Fin 5) :
    initByte p (0x50 + 5 * g.val + j.val) = glyphByte p g.val j.val := by
  have hdiv : (0x50 + 5 * g.val + j.val - 0x50) / 5 = g.val := by omega
  have hmod : (0x50 + 5 * g.val + j.val - 0x50) % 5 = j.val := by omega
  have hfont : Config.fontBase ≤ 0x50 + 5 * g.val + j.val ∧
      0x50 + 5 * g.val + j.val < Config.fontBase + Config.fontLen := by
    simp only [Config.fontBase_eq, Config.fontLen_eq]; omega
  rw [initByte, if_pos hfont, fontByte, Config.fontBase_eq, hdiv, hmod]

/-- Settles O51; the memory clauses are what an empty list of changes reads as (R68). -/
theorem resetLeavesTheTable : Obligations.ResetLeavesTheTable := by
  intro s
  refine ⟨s.begin.resetCommand, rfl, rfl, rfl, rfl, rfl, rfl, rfl, rfl, rfl, rfl, rfl, fun r => ?_, fun j => ?_,
    fun py px => ?_, rfl, fun j => ?_, fun g j => ?_, fun a ha => initByte_outside_font s.params ha⟩
  · simp [State.getV, State.construct]
  · simp [State.construct]
  · simp [Frame.pixel, State.construct]
  · rw [State.readByte_resetCommand]
    refine (initByte_glyph s.begin.params 0 j).trans ?_
    fin_cases j <;> rfl
  · rw [State.readByte_resetCommand]
    refine (initByte_glyph s.begin.params g.succ j).trans ?_
    simp [glyphByte, Nat.mod_eq_of_lt]

/-! ### The invariant between commands -/

/-- The invariant speaks of seven fields alone. -/
theorem State.Inv.congr {s t : State} (hs : s.Inv) (hparams : t.params = s.params) (hmem : t.mem = s.mem)
    (hdirty : t.dirty = s.dirty) (hsounding : t.sounding = s.sounding) (hST : t.ST = s.ST) (hPC : t.PC = s.PC)
    (hstack : t.stack = s.stack) : t.Inv where
  mem := by simpa only [State.memOk, hparams, hmem] using hs.mem
  clean := hdirty.trans hs.clean
  sound := by simpa only [State.soundOk, hsounding, hST] using hs.sound
  pc := by simpa only [State.pcOk, hPC] using hs.pc
  stack := by simpa only [State.stackOk, hstack] using hs.stack

/-- A new machine meets the invariant (R40, R289). -/
theorem State.construct_inv (p : Params) : (State.construct p).Inv where
  mem := ⟨List.Pairwise.nil, fun _ hc => absurd hc List.not_mem_nil⟩
  clean := rfl
  sound := rfl
  pc := by simp [State.pcOk, State.construct]
  stack := fun j => by simp [State.construct]

/-- Settles O56: reset is a new machine with an empty queue and no key pressed. -/
theorem invariantHoldsAtReset : Obligations.InvariantHoldsAtReset :=
  ⟨State.construct_inv defaultParams, trivial, fun _ _ => by simp [State.reset, State.construct]⟩

/-! ### From the instruction to the end of the step (R284 phases 4 to 6) -/

/-- What holds between the instruction and the end of the step: `dirty` and `sounding` are still to be settled by the
flush and the tick, unless the instruction raised a fault, which cuts both (R326). -/
structure State.ReadyToFinish (s : State) : Prop where
  /-- Canonical memory. -/
  mem : s.memOk
  /-- `PC ≤ 0x10FE`. -/
  pc : s.pcOk
  /-- Stack entries are at most 4096. -/
  stack : s.stackOk
  /-- A fault comes with `dirty` and `sounding` as they are between commands. -/
  fault : s.faulted = true → s.clean ∧ s.soundOk

/-- After the tick `sounding = (ST > 0)`, whatever it was before (R253). -/
theorem State.tickSound_soundOk (s : State) : s.tickSound.soundOk := by
  unfold State.soundOk
  rw [State.tickSound_ST]
  obtain h | h | h : s.ST.toNat = 0 ∨ s.ST.toNat = 1 ∨ 2 ≤ s.ST.toNat := by omega
  · simp [State.tickSound_zero s h, h]
  · simp [State.tickSound_one s h, h]
  · simpa [State.tickSound_more s h] using (show 1 < s.ST.toNat from h)

/-- The end of a step restores the invariant (R210, R253). -/
theorem State.ReadyToFinish.finish_inv {s : State} (h : s.ReadyToFinish) : s.finish.Inv := by
  cases hf : s.faulted with
  | true =>
    obtain ⟨hclean, hsound⟩ := h.fault hf
    rw [State.finish_faulted s hf]
    exact ⟨h.mem, hclean, hsound, h.pc, h.stack⟩
  | false =>
    refine ⟨?_, ?_, ?_, ?_, ?_⟩
    · simpa [State.memOk] using h.mem
    · rw [State.clean, State.finish_ok s hf, State.flushIfDirty_eq]
    · simpa [State.soundOk, State.finish_ok s hf, State.tick] using s.tickDelay.tickSound_soundOk
    · simpa [State.pcOk] using h.pc
    · simpa [State.stackOk] using h.stack

/-- A push of an address up to 4096 keeps the stack entries there (R25). -/
theorem State.push_stackOk {s : State} {v : Word} (hs : s.stackOk) (hv : v.toNat ≤ 0x1000) : (s.push v).stackOk := by
  intro j
  unfold State.push
  split
  · simp only [Vector.getElem_set]
    split
    · exact hv
    · exact hs j
  · exact hs j

/-- What a return pops is one of the stack entries (R122). -/
theorem State.stackTop_le {s : State} {a : Word} (hs : s.stackOk) (ha : s.stackTop = some a) : a.toNat ≤ 0x1000 := by
  have hSP : s.SP.val ≠ 0 := fun h => by simp [(s.stackTop_none).2 h] at ha
  have hlt : s.SP.val - 1 < 16 := by have := s.SP.isLt; omega
  rw [State.stackTop_some s hSP, Option.some.injEq] at ha
  exact ha ▸ hs ⟨s.SP.val - 1, hlt⟩

theorem Word.toNat_add_two {v : Word} (h : v.toNat ≤ 0x1000) : (v + 2).toNat = v.toNat + 2 := by
  rw [BitVec.toNat_add]
  change (v.toNat + 2) % 65536 = _
  omega

section
variable {s t : State} {i : Instr}

theorem ExecEffect.memOk (h : ExecEffect s i t) (hs : s.memOk) : t.memOk := by
  cases h with
  | storeDigits x a vs hi => exact State.writeBytes_memOk vs a hs
  | storeRegs x a vs v hi => exact State.writeBytes_memOk vs a hs
  | _ => simpa [State.memOk] using hs

/-- The values `PC` can get from an instruction whose post-increment `PC` is at most 4096 (R24). -/
theorem ExecEffect.pcOk (h : ExecEffect s i t) (hpc : s.PC.toNat ≤ 0x1000) (hstack : s.stackOk) : t.pcOk := by
  have hsame : s.pcOk := hpc.trans (by decide)
  cases h with
  | jump a ha => exact ha
  | call a ha room => exact ha
  | ret a ha => exact (State.stackTop_le hstack ha).trans (by decide)
  | skip taken =>
    cases taken with
    | false => exact hsame
    | true =>
      change (s.PC + 2).toNat ≤ 0x10FE
      rw [Word.toNat_add_two hpc]
      omega
  | _ => simpa [State.pcOk] using hsame

/-- Only a call writes the stack, with the post-increment `PC` (R25). -/
theorem ExecEffect.stackOk (h : ExecEffect s i t) (hpc : s.PC.toNat ≤ 0x1000) (hstack : s.stackOk) : t.stackOk := by
  cases h with
  | call a ha room => exact State.push_stackOk hstack hpc
  | _ => simpa [State.stackOk] using hstack

/-- If the command had not faulted before the instruction and has after it, the instruction raised the fault and changed
nothing else (R326). -/
theorem ExecEffect.eq_takeFault (h : ExecEffect s i t) (hs : s.faulted = false) (ht : t.faulted = true) :
    ∃ c n, t = s.takeFault c n := by
  cases h with
  | fault c n => exact ⟨c, n, rfl⟩
  | call a ha room =>
    have : ((s.push s.PC).setPC a).faulted = s.faulted :=
      State.faulted_congr (by rw [State.push_room s s.PC room]; rfl)
    simp [this, hs] at ht
  | _ =>
    rw [State.faulted_congr (s := s) (by simp), hs] at ht
    cases ht

/-- An instruction run on a state that meets the invariant, its `PC` just advanced from a fetch. -/
theorem ExecEffect.readyToFinish (h : ExecEffect s i t) (hs : s.Inv) (hpc : s.PC.toNat ≤ 0x1000)
    (hf : s.faulted = false) : t.ReadyToFinish where
  mem := h.memOk hs.mem
  pc := h.pcOk hpc hs.stack
  stack := h.stackOk hpc hs.stack
  fault ht := by
    obtain ⟨c, n, rfl⟩ := h.eq_takeFault hf ht
    exact ⟨hs.clean, hs.sound⟩

end

/-! ### Every step keeps the invariant -/

/-- Phases 3 to 6 (R284) keep the invariant. -/
theorem State.Inv.runWord {s t : State} {w : Word} (hs : s.Inv) (hpc : s.PC.toNat ≤ 4094) (hf : s.faulted = false)
    (h : s.runWord w = .next t) : t.Inv := by
  have hadv : s.advancePC.PC.toNat ≤ 0x1000 := by
    rw [State.advancePC_PC, Word.toNat_add_two (by omega)]
    omega
  have hs' : s.advancePC.Inv := ⟨hs.mem, hs.clean, hs.sound, hadv.trans (by decide), hs.stack⟩
  obtain ⟨i, v, -, hexec, rfl⟩ | ⟨e, -, rfl⟩ := State.runWord_cases h
  · exact ((exec_effect hexec).readyToFinish hs' hadv hf).finish_inv
  · exact State.ReadyToFinish.finish_inv ⟨hs'.mem, hs'.pc, hs'.stack, fun _ => ⟨hs'.clean, hs'.sound⟩⟩

/-- The command `step` keeps the invariant, STOPPED or RUNNING, with a word to fetch or beyond memory. -/
theorem State.Inv.stepCommand {s t : State} {now : Nat} {rnd : Byte} (hs : s.Inv) (hf : s.faulted = false)
    (h : s.stepCommand now rnd = .next t) : t.Inv := by
  have hswept : (s.swept now rnd).Inv := hs.congr rfl rfl rfl rfl rfl rfl rfl
  obtain ⟨-, rfl⟩ | ⟨-, -, rfl⟩ | ⟨-, hpc, hrun⟩ := State.stepCommand_cases h
  · exact hs.congr rfl rfl rfl rfl rfl rfl rfl
  · exact hswept.congr rfl rfl rfl rfl rfl rfl rfl
  · exact hswept.runWord hpc hf hrun

theorem State.Inv.press {s : State} (hs : s.Inv) (sym : Symbol) (now : Nat) : (s.press sym now).Inv := by
  unfold State.press
  split <;> exact hs.congr rfl rfl rfl rfl rfl rfl rfl

theorem State.Inv.release {s : State} (hs : s.Inv) (sym : Symbol) : (s.release sym).Inv := by
  unfold State.release
  split <;> exact hs.congr rfl rfl rfl rfl rfl rfl rfl

theorem State.Inv.loadProgram {s : State} (hs : s.Inv) (bytes : List Byte) : (s.loadProgram bytes).Inv := by
  unfold State.loadProgram
  split
  · refine ⟨State.writeBytes_memOk bytes _ hs.mem, ?_, ?_, ?_, ?_⟩
    · simpa [State.clean] using hs.clean
    · simpa [State.soundOk] using hs.sound
    · simpa [State.pcOk] using hs.pc
    · simpa [State.stackOk] using hs.stack
  · exact hs.congr rfl rfl rfl rfl rfl rfl rfl

/-- Every command of the host keeps the invariant (R280). -/
theorem State.Inv.command {s t : State} (hs : s.Inv) (c : Command) (h : s.command c = .next t) : t.Inv := by
  have hbegin : s.begin.Inv := hs.congr rfl rfl rfl rfl rfl rfl rfl
  cases c with
  | reset => cases h; exact (State.construct_inv s.params).congr rfl rfl rfl rfl rfl rfl rfl
  | start => cases h; exact hs.congr rfl rfl rfl rfl rfl rfl rfl
  | stop => cases h; exact hs.congr rfl rfl rfl rfl rfl rfl rfl
  | step now rnd => exact hbegin.stepCommand rfl h
  | press sym now => cases h; exact hbegin.press sym now
  | release sym => cases h; exact hbegin.release sym
  | loadProgram bytes => cases h; exact hbegin.loadProgram bytes

/-- Settles O57: the step is one command on the state without it. -/
theorem stepKeepsTheInvariant : Obligations.StepKeepsTheInvariant := by
  intro s t hs h
  rw [step_eq] at h
  have hdequeue : s.dequeue.Inv := hs.congr rfl rfl rfl rfl rfl rfl rfl
  exact hdequeue.command _ h

/-- Settles O59, by induction on the run. -/
theorem everyRunKeepsTheInvariant : Obligations.EveryRunKeepsTheInvariant := by
  intro s hs
  induction hs with
  | construct p cs => exact (State.construct_inv p).congr rfl rfl rfl rfl rfl rfl rfl
  | step _ hstep ih => exact stepKeepsTheInvariant _ _ ih hstep

end Sys2Proof.Machine
end

section
/-! PROOF. The statements of 20_memory: the fetched word (R62), the memory as data (R60, log 7), a store and a load of
registers from the same `I` (R70), and `loadProgram` (R75). -/

namespace Sys2Proof.Machine

/-- Settles O6: the word is the concatenation of the two bytes. -/
theorem fetchIsBigEndian : Obligations.FetchIsBigEndian :=
  fun _ => ⟨BitVec.extractLsb'_append_eq_left, BitVec.extractLsb'_append_eq_right⟩

/-! ### A canonical memory is what it reads (R60, log 7) -/

/-- With addresses strictly rising, the byte looked up for an address is the one entry that lists it. -/
theorem Memory.lookup_eq_some_iff {m : Memory} (hm : m.Pairwise (fun c d => c.1 < d.1)) (a : Nat) (v : Byte) :
    Memory.lookup m a = some v ↔ (a, v) ∈ m := by
  induction m with
  | nil => simp [Memory.lookup]
  | cons c m ih =>
    obtain ⟨hc, hm⟩ := List.pairwise_cons.1 hm
    by_cases ha : c.1 = a
    · have hnot : (a, v) ∉ m := fun h => absurd (hc _ h) (by simp [ha])
      simp [Memory.lookup, ha, hnot, Prod.ext_iff, eq_comm]
    · simp [Memory.lookup, ha, ih hm, Prod.ext_iff, Ne.symm ha]

/-- A canonical memory lists exactly the bytes that read otherwise than after reset. -/
theorem Memory.mem_iff_read {p : Params} {m : Memory} (hm : Memory.wf p m) (a : Nat) (v : Byte) :
    (a, v) ∈ m ↔ a ≤ Config.lastAddr ∧ v ≠ initByte p a ∧ Memory.read p m a = v := by
  obtain ⟨hrising, hlisted⟩ := hm
  rw [← Memory.lookup_eq_some_iff hrising]
  constructor
  · intro h
    obtain ⟨ha, hv⟩ := hlisted (a, v) ((Memory.lookup_eq_some_iff hrising a v).1 h)
    exact ⟨ha, hv, by rw [Memory.read, h, Option.getD_some]⟩
  · rintro ⟨-, hv, hread⟩
    cases h : Memory.lookup m a with
    | none => exact absurd (by rw [← hread, Memory.read, h, Option.getD_none]) hv
    | some w => rw [← hread, Memory.read, h, Option.getD_some]

/-- Two lists with addresses strictly rising and the same entries are the same list. -/
theorem Memory.eq_of_mem_iff {m n : Memory} (hm : m.Pairwise (fun c d => c.1 < d.1))
    (hn : n.Pairwise (fun c d => c.1 < d.1)) (h : ∀ c, c ∈ m ↔ c ∈ n) : m = n := by
  have : Std.Irrefl fun c d : Host.Cell => c.1 < d.1 := ⟨fun c => lt_irrefl c.1⟩
  have : Std.Antisymm fun c d : Host.Cell => c.1 < d.1 := ⟨fun _ _ hcd hdc => absurd hcd hdc.asymm⟩
  exact hm.eq_of_mem_iff hn h

/-- Settles O26: both list the same bytes, in the same order. -/
theorem canonicalMemoriesAreEqual : Obligations.CanonicalMemoriesAreEqual := by
  intro p m n hm hn hread
  refine Memory.eq_of_mem_iff hm.1 hn.1 fun ⟨a, v⟩ => ?_
  rw [Memory.mem_iff_read hm, Memory.mem_iff_read hn]
  exact and_congr_right fun ha => by rw [hread a ha]

/-! ### `Fx55` and `Fx65` within memory (R175 to R177) -/

/-- `Fx55` when its range is in memory (R176). -/
theorem exec_storeRegs_inMemory {x : Reg} {s : State} (h : s.I.toNat + x.val ≤ 4095) :
    exec (.storeRegs x) s = .next ((s.writeBytes (s.ea 0) (s.regsUpTo x)).setI (s.indexPast x)) :=
  if_pos ((s.rangeOk_iff _).2 (.inr (by omega)))

/-- `Fx65` when its range is in memory (R177). -/
theorem exec_loadRegs_inMemory {x : Reg} {s : State} (h : s.I.toNat + x.val ≤ 4095) :
    exec (.loadRegs x) s = .next ((s.setRegs 0 (s.readBytes (s.ea 0) (x.val + 1))).setI (s.indexPast x)) :=
  if_pos ((s.rangeOk_iff _).2 (.inr (by omega)))

/-- The byte at `I + r` after `V[0]`..`V[x]` were written from `I` on (R176). -/
theorem State.readByte_writeRegs {x r : Reg} {s : State} (h : s.I.toNat + x.val ≤ 4095) (hr : r ≤ x) :
    (s.writeBytes (s.ea 0) (s.regsUpTo x)).readByte (s.ea r.val) = s.getV r := by
  have hr' : r.val ≤ x.val := hr
  rw [State.readByte_writeBytes, State.length_regsUpTo, State.ea, State.ea, Config.lastAddr_eq, if_pos (by omega),
    Nat.add_zero, Nat.add_sub_cancel_left, State.regsUpTo_getD s x r.val hr']

/-- Register `r` after `V[0]`..`V[x]` were read from `I` on (R177). -/
theorem State.getV_readRegs {x r : Reg} (s : State) (hr : r ≤ x) :
    (s.setRegs 0 (s.readBytes (s.ea 0) (x.val + 1))).getV r = s.readByte (s.ea r.val) := by
  have hr' : r.val ≤ x.val := hr
  have hx := x.isLt
  rw [State.getV_setRegs _ _ _ _ (by rw [State.length_readBytes]; omega), State.length_readBytes, if_pos (by omega),
    State.readBytes_getD _ _ _ _ (by omega)]
  rfl

/-- Settles O25: each register is read from the byte it was stored to. -/
theorem storedRegistersLoadBack : Obligations.StoredRegistersLoadBack := by
  intro x s h
  refine ⟨_, exec_storeRegs_inMemory h, fun v => ⟨_, exec_loadRegs_inMemory h, fun r hr => ?_⟩⟩
  exact (State.getV_readRegs _ hr).trans (State.readByte_writeRegs h hr)

/-! ### `loadProgram` (R75, R77) -/

/-- A program that fits is written from 0x200 on. -/
theorem State.loadProgram_fits (s : State) {bytes : List Byte} (h : bytes.length ≤ 3584) :
    s.loadProgram bytes = s.writeBytes 0x200 bytes := if_pos h

/-- A program that does not fit raises LoadBounds. -/
theorem State.loadProgram_tooLong (s : State) {bytes : List Byte} (h : 3584 < bytes.length) :
    s.loadProgram bytes = s.takeFault .loadBounds bytes.length := if_neg (Nat.not_le.2 h)

theorem State.command_loadProgram (s : State) (bytes : List Byte) :
    s.command (.loadProgram bytes) = .next (s.begin.loadProgram bytes) := rfl

/-- Settles O52, from what a read gives after bytes were written. -/
theorem loadProgramWritesItsBytesAlone : Obligations.LoadProgramWritesItsBytesAlone := by
  intro s bytes
  constructor
  · intro h
    refine ⟨s.begin.writeBytes 0x200 bytes, ?_, fun j hj => ?_, fun a ha => ?_, State.writeBytes_eq bytes s.begin 0x200⟩
    · rw [State.command_loadProgram, State.loadProgram_fits _ h]
    · rw [State.readByte_writeBytes, Config.lastAddr_eq, if_pos (by omega), Nat.add_sub_cancel_left]
    · rw [State.readByte_writeBytes, if_neg (by omega)]
      rfl
  · intro h
    rw [State.command_loadProgram, State.loadProgram_tooLong _ h]
    rfl

end Sys2Proof.Machine
end

section
/-! PROOF. The statements of 30_encoding: decoding inverts encoding (R91, R92), and what the decoder answers for a word,
said once as `Decoded`, from which the opcode table (R95) and the unrecognized words (R96) follow. -/

namespace Sys2Proof

/-- Decoding the word of a well-formed instruction gives it back: the family selects the arm, then the function field
where the format has one (R94), and the operands are read from their fields. -/
theorem decode_encode {i : Instr} (hi : i.wellFormed = true) : decode (encode i) = .ok i := by
  cases i with
  | cls | ret => rfl
  | jp | call | ldI | jpV0 => simp [encode, decode]
  | seByte | sneByte | ldByte | addByte | rnd => simp [encode, decode]
  | seReg => simp [encode, decode, decodeFam5]
  | ldReg | orReg | andReg | xorReg | addReg | sub | shr | subn | shl => simp [encode, decode, decodeFam8]
  | sneReg => simp [encode, decode, decodeFam9]
  | drw x y n =>
    have hn : n ≤ 15 := of_decide_eq_true hi
    have hkept : n % 16 = n := Nat.mod_eq_of_lt (by omega)
    simp [encode, decode, hkept]
  | skp | sknp => simp [encode, decode, decodeFamE]
  | ldVxDT | ldVxK | ldDTVx | ldSTVx | addI | ldF | ldB | storeRegs | loadRegs => simp [encode, decode, decodeFamF]

/-- Settles O1, by the format of the instruction. -/
theorem decodeOfEncode : Obligations.DecodeOfEncode := fun _ => decode_encode

/-! ### A word whose fields are known is the word they encode (R92) -/

theorem encodeA_eq_of_fields {w : Word} {f : BitVec 4} {a : BitVec 12} (hf : famOf w = f) (ha : nnnOf w = a) :
    encodeA f a = w := by
  rw [← hf, ← ha, encodeA_fields]

theorem encodeXB_eq_of_fields {w : Word} {f : BitVec 4} {nn : Byte} (hf : famOf w = f) (hnn : nnOf w = nn) :
    encodeXB f (xOf w) nn = w := by
  rw [← hf, ← hnn, encodeXB_fields]

theorem encodeXYN_eq_of_fields {w : Word} {f n : BitVec 4} (hf : famOf w = f) (hn : nOf w = n) :
    encodeXYN f (xOf w) (yOf w) n = w := by
  rw [← hf, ← hn, encodeXYN_fields]

/-! ### What the decoder answers -/

/-- The words of R96, by their fields. -/
def Unrecognized (w : Word) : Prop :=
  (famOf w = 0x0#4 ∧ w ≠ 0x00E0#16 ∧ w ≠ 0x00EE#16) ∨
  ((famOf w = 0x5#4 ∨ famOf w = 0x9#4) ∧ nOf w ≠ 0x0#4) ∨
  (famOf w = 0x8#4 ∧ nOf w ∈ [0x8#4, 0x9#4, 0xA#4, 0xB#4, 0xC#4, 0xD#4, 0xF#4]) ∨
  (famOf w = 0xE#4 ∧ nnOf w ∉ [0x9E#8, 0xA1#8]) ∨
  (famOf w = 0xF#4 ∧ nnOf w ∉ [0x07#8, 0x0A#8, 0x15#8, 0x18#8, 0x1E#8, 0x29#8, 0x33#8, 0x55#8, 0x65#8])

/-- The two answers of the decoder to a word. -/
inductive Decoded (w : Word) : Except DecodeError Instr → Prop where
  /-- The well-formed instruction whose word it is (R92). -/
  | ok {i : Instr} (wf : i.wellFormed = true) (word : encode i = w) : Decoded w (.ok i)
  /-- The report of a word that matches no row (R96). -/
  | unrecognized (h : Unrecognized w) : Decoded w (.error (.unrecognizedOpcode w))

theorem decoded_fam0 {w : Word} (hf : famOf w = 0x0#4) : Decoded w (decodeFam0 w) := by
  unfold decodeFam0
  split
  case h_1 h => exact .ok rfl (encodeA_eq_of_fields hf h)
  case h_2 h => exact .ok rfl (encodeA_eq_of_fields hf h)
  case h_3 hcls hret => exact .unrecognized (.inl ⟨hf, fun h => hcls (h ▸ rfl), fun h => hret (h ▸ rfl)⟩)

theorem decoded_fam5 {w : Word} (hf : famOf w = 0x5#4) : Decoded w (decodeFam5 w) := by
  unfold decodeFam5
  split
  case h_1 h => exact .ok rfl (encodeXYN_eq_of_fields hf h)
  case h_2 h => exact .unrecognized (.inr (.inl ⟨.inl hf, h⟩))

theorem decoded_fam9 {w : Word} (hf : famOf w = 0x9#4) : Decoded w (decodeFam9 w) := by
  unfold decodeFam9
  split
  case h_1 h => exact .ok rfl (encodeXYN_eq_of_fields hf h)
  case h_2 h => exact .unrecognized (.inr (.inl ⟨.inr hf, h⟩))

/-- Family 8 gives nine nibbles a row and the other seven none (R96, R153). -/
theorem fam8_nibble_cases (n : BitVec 4) :
    n ∈ [0x0#4, 0x1#4, 0x2#4, 0x3#4, 0x4#4, 0x5#4, 0x6#4, 0x7#4, 0xE#4] ∨
    n ∈ [0x8#4, 0x9#4, 0xA#4, 0xB#4, 0xC#4, 0xD#4, 0xF#4] := by
  revert n; decide

theorem decoded_fam8 {w : Word} (hf : famOf w = 0x8#4) : Decoded w (decodeFam8 w) := by
  unfold decodeFam8
  split
  case h_10 =>
    have hn := (fam8_nibble_cases (nOf w)).resolve_left (by simp_all)
    exact .unrecognized (.inr (.inr (.inl ⟨hf, hn⟩)))
  all_goals exact .ok rfl (encodeXYN_eq_of_fields hf ‹_›)

theorem decoded_famE {w : Word} (hf : famOf w = 0xE#4) : Decoded w (decodeFamE w) := by
  unfold decodeFamE
  split
  case h_3 => exact .unrecognized (.inr (.inr (.inr (.inl ⟨hf, by simp_all⟩))))
  all_goals exact .ok rfl (encodeXB_eq_of_fields hf ‹_›)

theorem decoded_famF {w : Word} (hf : famOf w = 0xF#4) : Decoded w (decodeFamF w) := by
  unfold decodeFamF
  split
  case h_10 => exact .unrecognized (.inr (.inr (.inr (.inr ⟨hf, by simp_all⟩))))
  all_goals exact .ok rfl (encodeXB_eq_of_fields hf ‹_›)

/-- The 16 families are all there are (R94). -/
theorem family_mem (f : BitVec 4) :
    f ∈ [0x0#4, 0x1#4, 0x2#4, 0x3#4, 0x4#4, 0x5#4, 0x6#4, 0x7#4, 0x8#4, 0x9#4, 0xA#4, 0xB#4, 0xC#4, 0xD#4, 0xE#4,
      0xF#4] := by
  revert f; decide

/-- Every word has its answer; the last arm of `decode` is reached by none (R94, R99). -/
theorem decoded (w : Word) : Decoded w (decode w) := by
  unfold decode
  split
  case h_1 hf => exact decoded_fam0 hf
  case h_6 hf => exact decoded_fam5 hf
  case h_9 hf => exact decoded_fam8 hf
  case h_10 hf => exact decoded_fam9 hf
  case h_15 hf => exact decoded_famE hf
  case h_16 hf => exact decoded_famF hf
  case h_2 hf | h_3 hf | h_11 hf | h_12 hf => exact .ok rfl (encodeA_eq_of_fields hf rfl)
  case h_4 hf | h_5 hf | h_7 hf | h_8 hf | h_13 hf => exact .ok rfl (encodeXB_eq_of_fields hf rfl)
  case h_14 hf =>
    have hn := (nOf w).isLt
    refine .ok (decide_eq_true (by omega)) ?_
    rw [encode, BitVec.ofNat_toNat, BitVec.setWidth_eq, encodeXYN_eq_of_fields hf rfl]
  case h_17 =>
    have hf := family_mem (famOf w)
    simp_all

/-- Settles O2: the decoder's answer, when it is an instruction. -/
theorem encodeOfDecode : Obligations.EncodeOfDecode := by
  intro w i h
  cases h ▸ decoded w with
  | ok wf word => exact ⟨wf, word⟩

/-! ### The opcode table (R95) -/

/-- The lemmas of `Laws.RowMatch`, together. -/
theorem rowOf_holds_encode : ∀ i : Instr, (rowOf i).holds (encode i) = true
  | .cls => Laws.RowMatch.cls
  | .ret => Laws.RowMatch.ret
  | .jp _ => Laws.RowMatch.jp _
  | .call _ => Laws.RowMatch.call _
  | .seByte _ _ => Laws.RowMatch.seByte _ _
  | .sneByte _ _ => Laws.RowMatch.sneByte _ _
  | .seReg _ _ => Laws.RowMatch.seReg _ _
  | .ldByte _ _ => Laws.RowMatch.ldByte _ _
  | .addByte _ _ => Laws.RowMatch.addByte _ _
  | .ldReg _ _ => Laws.RowMatch.ldReg _ _
  | .orReg _ _ => Laws.RowMatch.orReg _ _
  | .andReg _ _ => Laws.RowMatch.andReg _ _
  | .xorReg _ _ => Laws.RowMatch.xorReg _ _
  | .addReg _ _ => Laws.RowMatch.addReg _ _
  | .sub _ _ => Laws.RowMatch.sub _ _
  | .shr _ _ => Laws.RowMatch.shr _ _
  | .subn _ _ => Laws.RowMatch.subn _ _
  | .shl _ _ => Laws.RowMatch.shl _ _
  | .sneReg _ _ => Laws.RowMatch.sneReg _ _
  | .ldI _ => Laws.RowMatch.ldI _
  | .jpV0 _ => Laws.RowMatch.jpV0 _
  | .rnd _ _ => Laws.RowMatch.rnd _ _
  | .drw _ _ _ => Laws.RowMatch.drw _ _ _
  | .skp _ => Laws.RowMatch.skp _
  | .sknp _ => Laws.RowMatch.sknp _
  | .ldVxDT _ => Laws.RowMatch.ldVxDT _
  | .ldVxK _ => Laws.RowMatch.ldVxK _
  | .ldDTVx _ => Laws.RowMatch.ldDTVx _
  | .ldSTVx _ => Laws.RowMatch.ldSTVx _
  | .addI _ => Laws.RowMatch.addI _
  | .ldF _ => Laws.RowMatch.ldF _
  | .ldB _ => Laws.RowMatch.ldB _
  | .storeRegs _ => Laws.RowMatch.storeRegs _
  | .loadRegs _ => Laws.RowMatch.loadRegs _

theorem rowOf_mem_opcodeTable (i : Instr) : rowOf i ∈ opcodeTable := by
  cases i <;> simp [rowOf, opcodeTable]

/-- One instruction of each row, in the table's order. -/
def rowInstrs : List Instr :=
  [.cls, .ret, .jp 0, .call 0, .seByte 0 0, .sneByte 0 0, .seReg 0 0, .ldByte 0 0, .addByte 0 0, .ldReg 0 0, .orReg 0 0,
   .andReg 0 0, .xorReg 0 0, .addReg 0 0, .sub 0 0, .shr 0 0, .subn 0 0, .shl 0 0, .sneReg 0 0, .ldI 0, .jpV0 0,
   .rnd 0 0, .drw 0 0 0, .skp 0, .sknp 0, .ldVxDT 0, .ldVxK 0, .ldDTVx 0, .ldSTVx 0, .addI 0, .ldF 0, .ldB 0,
   .storeRegs 0, .loadRegs 0]

theorem opcodeTable_eq_map : opcodeTable = rowInstrs.map rowOf := rfl

theorem famOf_of_holds {w p : Word} (h : OpcodeRow.holds ⟨0xF000, p⟩ w = true) : famOf w = p.extractLsb' 12 4 := by
  have hp : w &&& 0xF000 = p := beq_iff_eq.1 h
  rw [← famOf, ← hp, Laws.RowMatch.and_F000, famOf_encodeA]

theorem famOf_nOf_of_holds {w p : Word} (h : OpcodeRow.holds ⟨0xF00F, p⟩ w = true) :
    famOf w = p.extractLsb' 12 4 ∧ nOf w = p.extractLsb' 0 4 := by
  have hp : w &&& 0xF00F = p := beq_iff_eq.1 h
  rw [← famOf, ← nOf, ← hp, Laws.RowMatch.and_F00F, famOf_encodeXYN, nOf_encodeXYN]
  exact ⟨rfl, rfl⟩

theorem famOf_nnOf_of_holds {w p : Word} (h : OpcodeRow.holds ⟨0xF0FF, p⟩ w = true) :
    famOf w = p.extractLsb' 12 4 ∧ nnOf w = p.extractLsb' 0 8 := by
  have hp : w &&& 0xF0FF = p := beq_iff_eq.1 h
  rw [← famOf, ← nnOf, ← hp, Laws.RowMatch.and_F0FF, famOf_encodeXB, nnOf_encodeXB]
  exact ⟨rfl, rfl⟩

theorem eq_of_holds {w p : Word} (h : OpcodeRow.holds ⟨0xFFFF, p⟩ w = true) : w = p := by
  have hp : w &&& 0xFFFF = p := beq_iff_eq.1 h
  rw [← hp]
  exact BitVec.and_allOnes.symm

/-- A word that matches the row of an instruction is none of R96, by the bits the row's mask keeps. -/
theorem not_unrecognized_of_holds {i : Instr} {w : Word} (h : (rowOf i).holds w = true) : ¬ Unrecognized w := by
  cases i with
  | cls | ret =>
    obtain rfl := eq_of_holds h
    simp [Unrecognized, famOf]
  | jp | call | seByte | sneByte | ldByte | addByte | ldI | jpV0 | rnd | drw =>
    have hf := famOf_of_holds h
    simp [Unrecognized, hf]
  | seReg | ldReg | orReg | andReg | xorReg | addReg | sub | shr | subn | shl | sneReg =>
    obtain ⟨hf, hn⟩ := famOf_nOf_of_holds h
    simp [Unrecognized, hf, hn]
  | skp | sknp | ldVxDT | ldVxK | ldDTVx | ldSTVx | addI | ldF | ldB | storeRegs | loadRegs =>
    obtain ⟨hf, hnn⟩ := famOf_nnOf_of_holds h
    simp [Unrecognized, hf, hnn]

/-- R96 by fields; a word of R96 is the encoding of no instruction, since an encoding matches its row. -/
theorem decode_eq_unrecognized_iff (w : Word) : decode w = .error (.unrecognizedOpcode w) ↔ Unrecognized w := by
  constructor
  · intro h
    cases h ▸ decoded w with
    | unrecognized hw => exact hw
  · intro hw
    cases hd : decode w with
    | ok i =>
      obtain ⟨-, rfl⟩ := encodeOfDecode w i hd
      exact absurd hw (not_unrecognized_of_holds (rowOf_holds_encode i))
    | error e =>
      cases hd ▸ decoded w with
      | unrecognized => rfl

/-- Settles O3: a word that decodes is an encoding, which matches its row; the fixed bits of any row exclude a word that
is reported. -/
theorem decoderRecognizesExactlyTheTable : Obligations.DecoderRecognizesExactlyTheTable := by
  intro w
  cases hd : decode w with
  | ok i =>
    obtain ⟨-, rfl⟩ := encodeOfDecode w i hd
    exact .inl ⟨i, rfl, rowOf_mem_opcodeTable i, rowOf_holds_encode i⟩
  | error e =>
    cases hd ▸ decoded w with
    | unrecognized hw =>
      refine .inr ⟨rfl, fun r hr => ?_⟩
      obtain ⟨i, -, rfl⟩ := List.mem_map.1 (opcodeTable_eq_map ▸ hr)
      exact Bool.eq_false_iff.2 fun h => not_unrecognized_of_holds h hw

/-! ### The unrecognized words as numbers (R96) -/

theorem famOf_toNat (w : Word) : (famOf w).toNat = w.toNat / 4096 := by
  have := w.isLt
  rw [famOf, toNat_field]; omega

theorem nOf_toNat (w : Word) : (nOf w).toNat = w.toNat % 16 := by
  rw [nOf, toNat_field]; omega

theorem nnOf_toNat (w : Word) : (nnOf w).toNat = w.toNat % 256 := by
  rw [nnOf, toNat_field]; omega

/-- Settles O4: the fields of R96 are quotients and remainders of the word. -/
theorem unrecognizedWordsByFamily : Obligations.UnrecognizedWordsByFamily := by
  intro w
  rw [decode_eq_unrecognized_iff]
  simp [Unrecognized, BitVec.toNat_eq, famOf_toNat, nOf_toNat, nnOf_toNat]

/-- Settles O5, by evaluating the decoder on each word. -/
theorem wordsOfTheSpecDecode : Obligations.WordsOfTheSpecDecode := by
  unfold Obligations.WordsOfTheSpecDecode
  decide

end Sys2Proof
end

section
/-! PROOF. The statements of 40_control_flow: the jumps (R120, R127), the call and the return over the return-address
stack (R121, R122, R25), and the register skips (R123 to R126). -/

namespace Sys2Proof.Machine

/-! ### Jumps (R120, R127) -/

theorem toNat_zextAddr (nnn : BitVec 12) : (zextAddr nnn).toNat = nnn.toNat :=
  BitVec.toNat_setWidth_of_le (by decide)

theorem toNat_zextByte (v : Byte) : (zextByte v).toNat = v.toNat :=
  BitVec.toNat_setWidth_of_le (by decide)

/-- The target of `Bnnn` is the sum itself, above 12 bits when it is (R127, D33). -/
theorem State.toNat_jumpOffset (s : State) (nnn : BitVec 12) :
    (s.jumpOffset nnn).toNat = nnn.toNat + (s.getV 0).toNat := by
  have hnnn := nnn.isLt
  have hv := (s.getV 0).isLt
  have hsum : (zextAddr nnn).toNat + (zextByte (s.getV 0)).toNat < 2 ^ 16 := by
    rw [toNat_zextAddr, toNat_zextByte]
    omega
  rw [State.jumpOffset, BitVec.toNat_add_of_lt hsum, toNat_zextAddr, toNat_zextByte]

/-- Settles O7: the next state is `s.setPC`, and the word of a 12-bit address has its value. -/
theorem jumpLoadsItsAddress : Obligations.JumpLoadsItsAddress :=
  fun nnn s => ⟨s.setPC (zextAddr nnn), rfl, toNat_zextAddr nnn, rfl, fun _ => rfl⟩

/-- Settles O12: the next state is `s.setPC`, and the sum does not wrap. -/
theorem jumpWithOffsetAddsV0 : Obligations.JumpWithOffsetAddsV0 :=
  fun nnn s => ⟨s.setPC (s.jumpOffset nnn), rfl, s.toNat_jumpOffset nnn, rfl, fun _ => rfl⟩

/-! ### Call (R121) -/

/-- `2nnn` with room on the stack. -/
theorem exec_call_room {s : State} (nnn : BitVec 12) (h : s.SP.val < 16) :
    exec (.call nnn) s = .next ((s.push s.PC).setPC (zextAddr nnn)) := if_pos h

/-- `2nnn` with a full stack. -/
theorem exec_call_full {s : State} (nnn : BitVec 12) (h : s.SP.val = 16) :
    exec (.call nnn) s = .next (s.takeFault .stackOverflow s.PC.toNat) := if_neg (by omega)

theorem State.push_SP_val (s : State) (v : Word) (h : s.SP.val < 16) : (s.push v).SP.val = s.SP.val + 1 := by
  rw [s.push_room v h]

/-- Every entry after a push with room. -/
theorem State.push_stack_getElem (s : State) (v : Word) (h : s.SP.val < 16) (j : Fin 16) :
    (s.push v).stack[j.val] = if j.val = s.SP.val then v else s.stack[j.val] := by
  simp only [s.push_room v h, Vector.getElem_set, eq_comm (a := j.val)]

/-- A push with room changes `SP` and the stack alone. -/
theorem State.push_eq (s : State) (v : Word) (h : s.SP.val < 16) :
    s.push v = { s with SP := (s.push v).SP, stack := (s.push v).stack } := by
  rw [s.push_room v h]

/-- Settles O8, from what a push changes. -/
theorem callPushesAndJumps : Obligations.CallPushesAndJumps := by
  refine fun nnn s => ⟨fun room => ?_, exec_call_full nnn⟩
  refine ⟨(s.push s.PC).setPC (zextAddr nnn), exec_call_room nnn room, toNat_zextAddr nnn, s.push_SP_val s.PC room,
    s.push_stack_getElem s.PC room, ?_, State.readByte_congr (s.push_mem s.PC) (s.push_params s.PC)⟩
  exact congrArg (·.setPC (zextAddr nnn)) (s.push_eq s.PC room)

/-! ### Return (R122, R25) -/

/-- `00EE` with an entry on the stack. -/
theorem exec_ret_of_stackTop_some {s : State} {a : Word} (h : s.stackTop = some a) :
    exec .ret s = .next (s.dropTop.setPC a) := by
  rw [exec, execRet, h]

/-- `00EE` with an empty stack. -/
theorem exec_ret_of_stackTop_none {s : State} (h : s.stackTop = none) :
    exec .ret s = .next (s.takeFault .stackUnderflow s.PC.toNat) := by
  rw [exec, execRet, h]

/-- Settles O9: with an entry on the stack the top is the one below `SP`, and with `SP = 0` there is none. -/
theorem returnPopsIntoPC : Obligations.ReturnPopsIntoPC := by
  refine fun s => ⟨fun hSP => ?_, fun hSP => exec_ret_of_stackTop_none (s.stackTop_none.2 hSP)⟩
  refine ⟨_, exec_ret_of_stackTop_some (s.stackTop_some hSP.ne'), Nat.sub_add_cancel hSP, fun j hj => ?_, rfl,
    fun _ => rfl⟩
  have hj' : j.val = s.SP.val - 1 := hj
  simp only [State.setPC_PC, hj']

/-! ### A return after a call (R25) -/

theorem State.dropTop_push_SP (s : State) (v : Word) (h : s.SP.val < 16) : (s.push v).dropTop.SP = s.SP := by
  rw [s.push_room v h]
  rfl

theorem State.stackTop_push (s : State) (v : Word) (h : s.SP.val < 16) : (s.push v).stackTop = some v := by
  have hSP := s.push_SP_val v h
  rw [State.stackTop_some _ (by omega)]
  simp [s.push_room v h]

/-- Settles O10: the entry a return pops is the one the call pushed, wherever `PC` is by then. -/
theorem returnGoesAfterItsCall : Obligations.ReturnGoesAfterItsCall := by
  refine fun nnn s room => ⟨_, exec_call_room nnn room, fun pc => ?_⟩
  have htop : (((s.push s.PC).setPC (zextAddr nnn)).setPC pc).stackTop = some s.PC := s.stackTop_push s.PC room
  exact ⟨_, exec_ret_of_stackTop_some htop, rfl, s.dropTop_push_SP s.PC room⟩

/-! ### Skips (R123 to R126) -/

/-- A skip on equal bytes. -/
theorem State.skipIf_beq (s : State) (a b : Byte) :
    s.skipIf (a == b) = { s with PC := if a = b then s.PC + 2 else s.PC } := by
  simp only [State.skipIf_eq, beq_iff_eq]

/-- A skip on bytes that differ. -/
theorem State.skipIf_bne (s : State) (a b : Byte) :
    s.skipIf (a != b) = { s with PC := if a = b then s.PC else s.PC + 2 } := by
  simp only [State.skipIf_eq, bne_iff_ne, ne_eq, ite_not]

/-- Settles O11: each of the four is `s.skipIf` of its comparison. -/
theorem skipsTestTheirOperands : Obligations.SkipsTestTheirOperands :=
  fun x y nn s =>
    ⟨congrArg _ (s.skipIf_beq (s.getV x) nn), congrArg _ (s.skipIf_bne (s.getV x) nn),
      congrArg _ (s.skipIf_beq (s.getV x) (s.getV y)), congrArg _ (s.skipIf_bne (s.getV x) (s.getV y))⟩

end Sys2Proof.Machine
end

section
/-! PROOF. The statements of 41_load_alu: an instruction other than `Cxnn` runs alike whatever the draw (R156), the
instructions that write one register (R141, R142, R144 to R147, R155), and those that write a result and then the flag
(R143, R148 to R152). -/

namespace Sys2Proof.Machine

/-! ### The draw (R156, D3) -/

/-- The state with another draw. -/
def State.withDraw (s : State) (d : Byte) : State := { s with rnd := d }

theorem State.getV_withDraw (s : State) (d : Byte) (r : Reg) : (s.withDraw d).getV r = s.getV r := rfl

theorem State.keyAt_withDraw (s : State) (d v : Byte) : (s.withDraw d).keyAt v = s.keyAt v := rfl

theorem State.stackTop_withDraw (s : State) (d : Byte) : (s.withDraw d).stackTop = s.stackTop := rfl

/-- A push without room (R121). -/
theorem State.push_full (s : State) (v : Word) (h : ¬ s.SP.val < 16) :
    s.push v = s.takeFault .stackOverflow s.PC.toNat := dif_neg h

theorem State.push_withDraw (s : State) (d : Byte) (v : Word) : (s.withDraw d).push v = (s.push v).withDraw d := by
  by_cases room : s.SP.val < 16
  · rw [s.push_room v room, (s.withDraw d).push_room v room]
    rfl
  · rw [s.push_full v room, (s.withDraw d).push_full v room]
    rfl

theorem State.skipIf_withDraw (s : State) (d : Byte) (taken : Bool) :
    (s.withDraw d).skipIf taken = (s.skipIf taken).withDraw d := by
  cases taken <;> rfl

theorem State.writeByte_withDraw (s : State) (d : Byte) (a : Nat) (v : Byte) :
    (s.withDraw d).writeByte a v = (s.writeByte a v).withDraw d := by
  unfold State.writeByte
  split <;> rfl

theorem State.writeBytes_withDraw (d : Byte) (vs : List Byte) : ∀ (s : State) (a : Nat),
    (s.withDraw d).writeBytes a vs = (s.writeBytes a vs).withDraw d := by
  induction vs with
  | nil => exact fun _ _ => rfl
  | cons v vs ih => exact fun s a => by rw [writeBytes, writeByte_withDraw, ih, writeBytes]

theorem State.setRegs_withDraw (d : Byte) (vs : List Byte) : ∀ (s : State) (k : Nat),
    (s.withDraw d).setRegs k vs = (s.setRegs k vs).withDraw d := by
  induction vs with
  | nil => exact fun _ _ => rfl
  | cons v vs ih => exact fun s k => ih (s.setV (Fin.ofNat 16 k) v) (k + 1)

/-- When `o` answers a next state, `o'` answers that state with the draw `d`. -/
def SameWithDraw (d : Byte) (o o' : Outcome) : Prop := ∀ t, o = .next t → o' = .next (t.withDraw d)

theorem SameWithDraw.next {d : Byte} {t t' : State} (h : t' = t.withDraw d) : SameWithDraw d (.next t) (.next t') := by
  rintro _ ⟨⟩
  rw [h]

theorem SameWithDraw.ite {d : Byte} {c : Prop} [Decidable c] {a b a' b' : Outcome} (ha : SameWithDraw d a a')
    (hb : SameWithDraw d b b') : SameWithDraw d (if c then a else b) (if c then a' else b') := by
  split
  · exact ha
  · exact hb

/-- Every arm of `exec` but that of `Cxnn` passes the draw on and branches without it. -/
theorem exec_withDraw {i : Instr} (hi : ∀ x nn, i ≠ .rnd x nn) (s : State) (d : Byte) :
    SameWithDraw d (exec i s) (exec i (s.withDraw d)) := by
  cases i with
  | rnd x nn => exact absurd rfl (hi x nn)
  | cls | jp | jpV0 | ldByte | addByte | ldReg | orReg | andReg | xorReg | addReg | sub | shr | subn | shl | ldI
  | ldVxDT | ldVxK | ldDTVx | ldSTVx | addI | ldF => exact .next rfl
  | seByte | sneByte | seReg | sneReg => exact .next (s.skipIf_withDraw d _)
  | call nnn => exact .ite (.next (congrArg (State.setPC · _) (s.push_withDraw d _))) (.next rfl)
  | drw => exact .ite (.next rfl) (.next rfl)
  | ldB => exact .ite (.next (State.writeBytes_withDraw d _ s _)) (.next rfl)
  | storeRegs => exact .ite (.next (congrArg (State.setI · _) (State.writeBytes_withDraw d _ s _))) (.next rfl)
  | loadRegs => exact .ite (.next (congrArg (State.setI · _) (State.setRegs_withDraw d _ s _))) (.next rfl)
  | ret =>
    simp only [exec, execRet, State.stackTop_withDraw]
    split
    · exact .next rfl
    · exact .next rfl
  | skp x =>
    simp only [exec, execSkp, State.keyAt_withDraw, State.getV_withDraw]
    split
    · exact .next (s.skipIf_withDraw d _)
    · exact .next rfl
  | sknp x =>
    simp only [exec, execSknp, State.keyAt_withDraw, State.getV_withDraw]
    split
    · exact .next (s.skipIf_withDraw d _)
    · exact .next rfl

/-- Settles O55, from `exec_withDraw`. -/
theorem onlyRandomReadsTheDraw : Obligations.OnlyRandomReadsTheDraw :=
  fun _ s t d hi h => exec_withDraw hi s d t h

/-! ### One register written (R141, R142, R144 to R147, R155) -/

theorem State.getV_setV_same (s : State) (x : Reg) (v : Byte) : (s.setV x v).getV x = v := by
  rw [State.getV_setV, if_pos rfl]

/-- What a write of one register leaves unchanged. -/
theorem State.setV_frame (s : State) (x : Reg) (v : Byte) :
    (∀ r, r ≠ x → (s.setV x v).getV r = s.getV r) ∧ s.setV x v = { s with V := (s.setV x v).V } ∧
      s.sameMemory (s.setV x v) :=
  ⟨fun r hr => by rw [State.getV_setV, if_neg hr], rfl, fun _ => rfl⟩

/-- Settles O13: each is `s.setV`, and a byte sum is the sum mod 256. -/
theorem loadAndAddByte : Obligations.LoadAndAddByte := by
  refine fun x nn s => ⟨⟨_, rfl, s.getV_setV_same x nn, s.setV_frame x nn⟩, ⟨_, rfl, ?_, s.setV_frame x _⟩⟩
  rw [State.getV_setV_same]
  exact BitVec.toNat_add (s.getV x) nn

/-- Settles O14: each of the four is `s.setV`. -/
theorem copyAndLogicWriteOnlyVx : Obligations.CopyAndLogicWriteOnlyVx :=
  fun x _ s =>
    ⟨⟨_, rfl, s.getV_setV_same x _, s.setV_frame x _⟩, ⟨_, rfl, s.getV_setV_same x _, s.setV_frame x _⟩,
      ⟨_, rfl, s.getV_setV_same x _, s.setV_frame x _⟩, ⟨_, rfl, s.getV_setV_same x _, s.setV_frame x _⟩⟩

/-- Settles O18: the instruction is `s.setV` of the masked draw, whose bits are 0 where those of `nn` are. -/
theorem randomIsTheMaskedDraw : Obligations.RandomIsTheMaskedDraw := by
  refine fun x nn s => ⟨_, rfl, s.getV_setV_same x _, fun b hb => ?_, s.setV_frame x _⟩
  rw [State.getV_setV_same, BitVec.getLsbD_and, hb, Bool.and_false]

/-! ### A result and then the flag (R143, D13) -/

/-- The flag stands in `VF`, whatever `x` is. -/
theorem State.getV_vf_setResultFlag (s : State) (x : Reg) (r f : Byte) : (s.setResultFlag x r f).getV vf = f := by
  rw [State.getV_setResultFlag, if_pos rfl]

/-- The result stands in `V[x]` unless that is `VF`. -/
theorem State.getV_result_setResultFlag (s : State) {x : Reg} (r f : Byte) (hx : x ≠ vf) :
    (s.setResultFlag x r f).getV x = r := by
  rw [State.getV_setResultFlag, if_neg hx, if_pos rfl]

/-- What a result and a flag leave unchanged. -/
theorem State.setResultFlag_frame (s : State) (x : Reg) (r f : Byte) :
    (∀ q, q ≠ x → q ≠ vf → (s.setResultFlag x r f).getV q = s.getV q) ∧
      s.setResultFlag x r f = { s with V := (s.setResultFlag x r f).V } ∧ s.sameMemory (s.setResultFlag x r f) :=
  ⟨fun q hqx hqf => by rw [State.getV_setResultFlag, if_neg hqf, if_neg hqx], s.setResultFlag_eq x r f, fun _ => rfl⟩

/-! ### The flags and the results as numbers (R148 to R152) -/

theorem carryFlag_eq (a b : Byte) : carryFlag a b = if 255 < a.toNat + b.toNat then 1 else 0 := by
  simp only [carryFlag, flagByte, decide_eq_true_eq]

theorem noBorrowFlag_eq (a b : Byte) : noBorrowFlag a b = if b.toNat < a.toNat then 1 else 0 := by
  simp only [noBorrowFlag, flagByte, decide_eq_true_eq]

theorem toNat_flagByte (b : Bool) : (flagByte b).toNat = b.toNat := by
  cases b <;> rfl

theorem toNat_lsbFlag (a : Byte) : (lsbFlag a).toNat = a.toNat % 2 := by
  rw [lsbFlag, toNat_flagByte, BitVec.getLsbD, Nat.toNat_testBit, pow_zero, Nat.div_one]

theorem toNat_msbFlag (a : Byte) : (msbFlag a).toNat = a.toNat / 128 := by
  have ha := a.isLt
  rw [msbFlag, toNat_flagByte, BitVec.getLsbD, Nat.toNat_testBit]
  omega

/-- A byte difference is the difference mod 256. -/
theorem Byte.toNat_sub (a b : Byte) : (a - b).toNat = (256 + a.toNat - b.toNat) % 256 := by
  have hb := b.isLt
  rw [BitVec.toNat_sub]
  omega

theorem Byte.toNat_shiftRight_one (a : Byte) : (a >>> 1).toNat = a.toNat / 2 := by
  rw [BitVec.toNat_ushiftRight, Nat.shiftRight_one]

theorem Byte.toNat_shiftLeft_one (a : Byte) : (a <<< 1).toNat = 2 * a.toNat % 256 := by
  rw [BitVec.toNat_shiftLeft, Nat.shiftLeft_eq, pow_one, Nat.mul_comm]

/-- Settles O15: a result and a flag, the byte sum and its carry. -/
theorem addWritesSumThenCarry : Obligations.AddWritesSumThenCarry := by
  refine fun x y s => ⟨_, rfl, ?_, fun hx => ?_, s.setResultFlag_frame x _ _⟩
  · exact (s.getV_vf_setResultFlag x _ _).trans (carryFlag_eq _ _)
  · rw [s.getV_result_setResultFlag _ _ hx]
    exact BitVec.toNat_add (s.getV x) (s.getV y)

/-- Settles O16: a result and a flag, the byte difference and whether it needs no borrow, in either order. -/
theorem subtractionsWriteStrictNoBorrow : Obligations.SubtractionsWriteStrictNoBorrow := by
  refine fun x y s => ⟨⟨_, rfl, ?_, fun hx => ?_, s.setResultFlag_frame x _ _⟩,
    ⟨_, rfl, ?_, fun hx => ?_, s.setResultFlag_frame x _ _⟩⟩
  · exact (s.getV_vf_setResultFlag x _ _).trans (noBorrowFlag_eq _ _)
  · rw [s.getV_result_setResultFlag _ _ hx, Byte.toNat_sub]
  · exact (s.getV_vf_setResultFlag x _ _).trans (noBorrowFlag_eq _ _)
  · rw [s.getV_result_setResultFlag _ _ hx, Byte.toNat_sub]

/-- Settles O17: a result and a flag, the shifted byte and the bit it loses. -/
theorem shiftsWriteTheLostBit : Obligations.ShiftsWriteTheLostBit := by
  refine fun x _ s => ⟨⟨_, rfl, ?_, fun hx => ?_, s.setResultFlag_frame x _ _⟩,
    ⟨_, rfl, ?_, fun hx => ?_, s.setResultFlag_frame x _ _⟩⟩
  · exact (congrArg _ (s.getV_vf_setResultFlag x _ _)).trans (toNat_lsbFlag _)
  · rw [s.getV_result_setResultFlag _ _ hx, Byte.toNat_shiftRight_one]
  · exact (congrArg _ (s.getV_vf_setResultFlag x _ _)).trans (toNat_msbFlag _)
  · rw [s.getV_result_setResultFlag _ _ hx, Byte.toNat_shiftLeft_one]

end Sys2Proof.Machine
end

section
/-! PROOF. The statements of 42_index_memory: the three writes of `I` (R171 to R173), the decimal digits (R174), and the
block store and load of registers with their bounds (R175 to R177, R77). -/

namespace Sys2Proof.Machine

/-! ### The index register (R171 to R173) -/

/-- Settles O20: the next state is `s.setI`, and the word of a 12-bit address has its value. -/
theorem loadIndexAddress : Obligations.LoadIndexAddress :=
  fun nnn s => ⟨s.setI (zextAddr nnn), rfl, toNat_zextAddr nnn, rfl, fun _ => rfl⟩

theorem toNat_add_zextByte (a : Word) (v : Byte) : (a + zextByte v).toNat = (a.toNat + v.toNat) % 65536 := by
  rw [BitVec.toNat_add, toNat_zextByte]

/-- The glyph address of any byte stays within a word (R173, D34). -/
theorem toNat_glyphAddr (v : Byte) : (glyphAddr v).toNat = v.toNat * 5 + 0x50 := by
  have hv := v.isLt
  rw [glyphAddr, BitVec.toNat_add, BitVec.toNat_mul, toNat_zextByte]
  change (v.toNat * 5 % 65536 + 0x50) % 65536 = _
  omega

/-- Settles O21: each is `s.setI`, of a sum mod 2^16 and of a glyph address. -/
theorem indexArithmetic : Obligations.IndexArithmetic :=
  fun x s =>
    ⟨⟨s.setI (s.I + zextByte (s.getV x)), rfl, toNat_add_zextByte s.I (s.getV x), rfl, fun _ => rfl⟩,
      ⟨s.setI (glyphAddr (s.getV x)), rfl, toNat_glyphAddr (s.getV x), rfl, fun _ => rfl⟩⟩

/-! ### Bytes read after a block was written (R63, R66, R70) -/

/-- Byte `j` of a block written within memory. -/
theorem State.readByte_writeBytes_add (s : State) {a j : Nat} {vs : List Byte} (hj : j < vs.length)
    (ha : a + j ≤ Config.lastAddr) : (s.writeBytes a vs).readByte (a + j) = vs.getD j 0 := by
  rw [State.readByte_writeBytes, if_pos (by omega), Nat.add_sub_cancel_left]

/-- A byte outside the block. -/
theorem State.readByte_writeBytes_outside (s : State) {a b : Nat} {vs : List Byte} (hb : b < a ∨ a + vs.length ≤ b) :
    (s.writeBytes a vs).readByte b = s.readByte b := by
  rw [State.readByte_writeBytes, if_neg (by omega)]

/-! ### Decimal digits (R174, D16) -/

/-- `Fx33` when its three addresses are in memory. -/
theorem exec_ldB_inMemory {x : Reg} {s : State} (h : s.I.toNat ≤ 4093) :
    exec (.ldB x) s = .next (s.writeBytes (s.ea 0) (bcdDigits (s.getV x))) :=
  if_pos ((s.rangeOk_iff _).2 (.inr (by omega)))

/-- `Fx33` when they leave memory (R77). -/
theorem exec_ldB_beyondMemory {x : Reg} {s : State} (h : 4093 < s.I.toNat) :
    exec (.ldB x) s = .next (s.takeFault .memWriteBounds s.I.toNat) :=
  if_neg ((s.rangeOk_iff _).not.2 (by omega))

/-- Each digit fits a byte: hundreds, tens and ones, in that order. -/
theorem toNat_bcdDigits (v : Byte) :
    ((bcdDigits v).getD 0 0).toNat = v.toNat / 100 ∧ ((bcdDigits v).getD 1 0).toNat = v.toNat / 10 % 10 ∧
      ((bcdDigits v).getD 2 0).toNat = v.toNat % 10 := by
  have hv := v.isLt
  exact ⟨Nat.mod_eq_of_lt (by omega), Nat.mod_eq_of_lt (by omega), Nat.mod_eq_of_lt (by omega)⟩

/-- The byte at `I + j` after the digits of `v` were written from `I` on. -/
theorem State.readByte_writeDigits {s : State} (h : s.I.toNat ≤ 4093) (v : Byte) {j : Nat} (hj : j < 3) :
    (s.writeBytes (s.ea 0) (bcdDigits v)).readByte (s.ea j) = (bcdDigits v).getD j 0 :=
  s.readByte_writeBytes_add hj (by simp only [State.ea, Config.lastAddr_eq]; omega)

/-- Settles O22, from what a read gives after the three digits were written. -/
theorem storeDecimalDigits : Obligations.StoreDecimalDigits := by
  refine fun x s => ⟨fun h => ?_, exec_ldB_beyondMemory⟩
  obtain ⟨hundreds, tens, ones⟩ := toNat_bcdDigits (s.getV x)
  refine ⟨_, exec_ldB_inMemory h, ?_, ?_, ?_, fun a ha => s.readByte_writeBytes_outside ha,
    State.writeBytes_eq _ s _⟩
  · rw [State.readByte_writeDigits h _ (by decide), hundreds]
  · rw [State.readByte_writeDigits h _ (by decide), tens]
  · rw [State.readByte_writeDigits h _ (by decide), ones]

/-! ### Blocks of registers (R175 to R177, D7, D17) -/

/-- `Fx55` when its range leaves memory (R77). -/
theorem exec_storeRegs_beyondMemory {x : Reg} {s : State} (h : 4095 < s.I.toNat + x.val) :
    exec (.storeRegs x) s = .next (s.takeFault .memWriteBounds s.I.toNat) :=
  if_neg ((s.rangeOk_iff _).not.2 (by omega))

/-- `Fx65` when its range leaves memory (R77). -/
theorem exec_loadRegs_beyondMemory {x : Reg} {s : State} (h : 4095 < s.I.toNat + x.val) :
    exec (.loadRegs x) s = .next (s.takeFault .memReadBounds s.I.toNat) :=
  if_neg ((s.rangeOk_iff _).not.2 (by omega))

/-- `I` does not wrap past a block within memory (R175). -/
theorem State.toNat_indexPast {x : Reg} {s : State} (h : s.I.toNat + x.val ≤ 4095) :
    (s.indexPast x).toNat = s.I.toNat + x.val + 1 := by
  rw [State.indexPast, BitVec.toNat_add, BitVec.toNat_ofNat]
  omega

/-- Every register after `V[0]`..`V[x]` were read from `I` on: those above `x` are left alone (R177). -/
theorem State.getV_setRegs_readBytes (s : State) (x r : Reg) :
    (s.setRegs 0 (s.readBytes (s.ea 0) (x.val + 1))).getV r =
      if r ≤ x then s.readByte (s.ea r.val) else s.getV r := by
  split
  · exact s.getV_readRegs ‹_›
  · have hr : x.val < r.val := not_le.1 ‹_›
    have hx := x.isLt
    rw [State.getV_setRegs _ _ _ _ (by rw [State.length_readBytes]; omega), State.length_readBytes, if_neg (by omega)]

/-- Settles O23, from what a read gives after the registers were written. -/
theorem storeRegistersFromIndex : Obligations.StoreRegistersFromIndex := by
  refine fun x s => ⟨fun h => ?_, exec_storeRegs_beyondMemory⟩
  refine ⟨_, exec_storeRegs_inMemory h, fun r hr => State.readByte_writeRegs h hr, fun a ha => ?_,
    State.toNat_indexPast h, congrArg (·.setI (s.indexPast x)) (State.writeBytes_eq _ s _)⟩
  exact s.readByte_writeBytes_outside (by rwa [State.length_regsUpTo])

/-- Settles O24, from what a block of register writes leaves in each register. -/
theorem loadRegistersFromIndex : Obligations.LoadRegistersFromIndex := by
  refine fun x s => ⟨fun h => ?_, exec_loadRegs_beyondMemory⟩
  refine ⟨_, exec_loadRegs_inMemory h, s.getV_setRegs_readBytes x, State.toNat_indexPast h,
    congrArg (·.setI (s.indexPast x)) (State.setRegs_eq _ s _), State.readByte_congr ?_ ?_⟩
  · exact s.setRegs_mem _ _
  · exact s.setRegs_params _ _

end Sys2Proof.Machine
end

section
/-! PROOF. The statements of 43_display_blitter: the clear (R198), the draw as an XOR with the sprite and its collision
(R192 to R196, R199, R201), the same draw twice (R202), and the flush (R207, R208). -/

namespace Sys2Proof.Machine

/-! ### The sprite, row by row (R192 to R194) -/

/-- Row `r` of a sprite, drawn at `(x0, y0)`, has a set pixel that lands on `(px, py)`. -/
def State.spriteRowOn (s : State) (x0 y0 r : Nat) (py : Fin 32) (px : Fin 64) : Prop :=
  py = spriteRow y0 r ∧ ∃ c, c < 8 ∧ spriteCol x0 c = px ∧ spriteBit (s.readByte (s.ea r)) c = true

theorem State.spriteOn_iff_rows (s : State) (x0 y0 n : Nat) (py : Fin 32) (px : Fin 64) :
    s.spriteOn x0 y0 n py px ↔ ∃ r, r < n ∧ s.spriteRowOn x0 y0 r py px := by
  constructor
  · rintro ⟨r, c, hr, hc, hy, hx, hb⟩
    exact ⟨r, hr, Fin.ext hy.symm, c, hc, Fin.ext hx, hb⟩
  · rintro ⟨r, hr, rfl, c, hc, rfl, hb⟩
    exact ⟨r, c, hr, hc, rfl, rfl, hb⟩

theorem State.not_spriteOn_zero (s : State) (x0 y0 : Nat) (py : Fin 32) (px : Fin 64) :
    ¬ s.spriteOn x0 y0 0 py px :=
  fun ⟨_, _, hr, _⟩ => Nat.not_lt_zero _ hr

theorem State.spriteOn_succ (s : State) (x0 y0 n : Nat) (py : Fin 32) (px : Fin 64) :
    s.spriteOn x0 y0 (n + 1) py px ↔ s.spriteOn x0 y0 n py px ∨ s.spriteRowOn x0 y0 n py px := by
  simp only [State.spriteOn_iff_rows]
  exact Nat.exists_lt_succ_right

/-- The rows before row `n` do not reach its framebuffer row: a sprite of at most 32 rows does not meet itself
(R196). -/
theorem State.not_spriteOn_spriteRow (s : State) (x0 y0 : Nat) {n : Nat} (hn : n < 32) (px : Fin 64) :
    ¬ s.spriteOn x0 y0 n (spriteRow y0 n) px := by
  rw [State.spriteOn_iff_rows]
  rintro ⟨r, hr, hrow, -⟩
  exact absurd (spriteRow_inj hn (hr.trans hn) hrow) hr.ne'

/-- A sprite has a set pixel exactly when some pixel of the framebuffer is under one. -/
theorem State.exists_spriteOn_iff (s : State) (x0 y0 n : Nat) :
    (∃ py px, s.spriteOn x0 y0 n py px) ↔
      ∃ r c : Nat, r < n ∧ c < 8 ∧ (s.readByte (s.ea r)).getLsbD (7 - c) = true := by
  constructor
  · rintro ⟨_, _, r, c, hr, hc, -, -, hb⟩
    exact ⟨r, c, hr, hc, hb⟩
  · rintro ⟨r, c, hr, hc, hb⟩
    exact ⟨spriteRow y0 r, spriteCol x0 c, r, c, hr, hc, rfl, rfl, hb⟩

theorem State.spriteOn_congr {s t : State} (hI : t.I = s.I) (hmem : s.sameMemory t) (x0 y0 n : Nat) (py : Fin 32)
    (px : Fin 64) : t.spriteOn x0 y0 n py px ↔ s.spriteOn x0 y0 n py px := by
  simp only [State.spriteOn, State.ea, hI, hmem _]

/-! ### A whole draw (R195, R196) -/

theorem State.blit_zero (s : State) (x0 y0 : Nat) : s.blit x0 y0 0 = { fb := s.FB, hit := false } := rfl

/-- What one more row adds: its set pixels are turned, and those that were 1 are hits. -/
theorem State.blit_succ_spec (s : State) (x0 y0 n : Nat) :
    (∀ py px, (s.blit x0 y0 (n + 1)).fb.pixel py px = true ↔
      ¬ ((s.blit x0 y0 n).fb.pixel py px = true ↔ s.spriteRowOn x0 y0 n py px)) ∧
    ((s.blit x0 y0 (n + 1)).hit = true ↔ (s.blit x0 y0 n).hit = true ∨
      ∃ py px, (s.blit x0 y0 n).fb.pixel py px = true ∧ s.spriteRowOn x0 y0 n py px) := by
  rw [State.blit_succ]
  obtain ⟨pixel, hit⟩ := blitRow_spec (s.readByte (s.ea n)) x0 (spriteRow y0 n) (s.blit x0 y0 n)
  refine ⟨pixel, hit.trans (or_congr_right ⟨?_, ?_⟩)⟩
  · rintro ⟨c, hc, hb, lit⟩
    exact ⟨_, _, lit, rfl, c, hc, rfl, hb⟩
  · rintro ⟨_, _, lit, rfl, c, hc, rfl, hb⟩
    exact ⟨c, hc, hb, lit⟩

/-- A draw of at most 32 rows turns each pixel once, by XOR with the sprite, and has hit when some pixel was 1 in
both. -/
theorem State.blit_spec (s : State) (x0 y0 : Nat) {n : Nat} (hn : n ≤ 32) :
    (∀ py px, (s.blit x0 y0 n).fb.pixel py px = true ↔
      ¬ (s.FB.pixel py px = true ↔ s.spriteOn x0 y0 n py px)) ∧
    ((s.blit x0 y0 n).hit = true ↔ ∃ py px, s.FB.pixel py px = true ∧ s.spriteOn x0 y0 n py px) := by
  induction n with
  | zero => simp [State.blit_zero, State.not_spriteOn_zero]
  | succ n ih =>
    obtain ⟨ihPixel, ihHit⟩ := ih (by omega)
    obtain ⟨rowPixel, rowHit⟩ := s.blit_succ_spec x0 y0 n
    have fresh := s.not_spriteOn_spriteRow x0 y0 (n := n) (by omega)
    have untouched : ∀ px, (s.blit x0 y0 n).fb.pixel (spriteRow y0 n) px = true ↔
        s.FB.pixel (spriteRow y0 n) px = true := fun px => by
      rw [ihPixel, iff_false_right (fresh px), not_not]
    constructor
    · intro py px
      rw [rowPixel, State.spriteOn_succ]
      by_cases row : s.spriteRowOn x0 y0 n py px
      · have apart : ¬ s.spriteOn x0 y0 n py px := row.1 ▸ fresh px
        simp only [row, apart, ihPixel, or_true, iff_true, iff_false, not_not]
      · simp only [row, ihPixel, or_false, iff_false, not_not]
    · rw [rowHit, ihHit]
      simp only [State.spriteOn_succ, and_or_left, exists_or]
      refine or_congr_right (exists₂_congr fun py px => and_congr_left fun row => ?_)
      rw [row.1, untouched]

/-! ### `Dxyn` (R199, R201) -/

/-- The state after a draw at `(V[x], V[y])` whose data lie in memory. -/
def State.drawn (s : State) (x y : Reg) (n : Nat) : State :=
  (s.setFrame (s.blit (s.getV x).toNat (s.getV y).toNat n).fb).setV vf
    (flagByte (s.blit (s.getV x).toNat (s.getV y).toNat n).hit)

theorem exec_drw_inMemory {x y : Reg} {n : Nat} {s : State} (h : n = 0 ∨ s.I.toNat + n - 1 ≤ 4095) :
    exec (.drw x y n) s = .next (s.drawn x y n) :=
  if_pos ((s.rangeOk_iff n).2 (by omega))

theorem exec_drw_beyondMemory {x y : Reg} {n : Nat} {s : State} (hn : 0 < n) (h : 4095 < s.I.toNat + n - 1) :
    exec (.drw x y n) s = .next (s.takeFault .memReadBounds s.I.toNat) :=
  if_neg ((s.rangeOk_iff n).not.2 (by omega))

@[simp] theorem State.drawn_FB (s : State) (x y : Reg) (n : Nat) :
    (s.drawn x y n).FB = (s.blit (s.getV x).toNat (s.getV y).toNat n).fb := rfl

/-- The collision is always written into `VF` (R199). -/
theorem State.getV_vf_drawn (s : State) (x y : Reg) (n : Nat) :
    (s.drawn x y n).getV vf = flagByte (s.blit (s.getV x).toNat (s.getV y).toNat n).hit :=
  State.getV_setV_same _ vf _

/-- A draw writes no register but `VF`. -/
theorem State.getV_drawn (s : State) (x y : Reg) (n : Nat) {r : Reg} (hr : r ≠ vf) :
    (s.drawn x y n).getV r = s.getV r := by
  rw [State.drawn, State.getV_setV, if_neg hr]
  rfl

/-- A draw writes the framebuffer, `dirty` and the registers alone (R203). -/
theorem State.drawn_eq (s : State) (x y : Reg) (n : Nat) :
    s.drawn x y n = { s with FB := (s.drawn x y n).FB, dirty := true, V := (s.drawn x y n).V } := rfl

theorem State.sameMemory_drawn (s : State) (x y : Reg) (n : Nat) : s.sameMemory (s.drawn x y n) :=
  State.readByte_congr rfl rfl

theorem flagByte_eq_one_iff (b : Bool) : flagByte b = 1 ↔ b = true := by
  cases b <;> decide

/-- Settles O28, from what a whole draw does to every pixel and when it hits. -/
theorem drawXorsTheSprite : Obligations.DrawXorsTheSprite := by
  intro x y n s hn hmem
  obtain ⟨pixel, hit⟩ := s.blit_spec (s.getV x).toNat (s.getV y).toNat (n := n) (by omega)
  have flag : (s.drawn x y n).getV 15 = _ := s.getV_vf_drawn x y n
  refine ⟨_, exec_drw_inMemory hmem, pixel, ?_, ?_, rfl, fun _ => s.getV_drawn x y n, s.drawn_eq x y n,
    s.sameMemory_drawn x y n⟩
  · rw [flag]
    exact flagByte_zero_or_one _
  · rw [flag, flagByte_eq_one_iff, hit]

/-- Settles O29: a draw of no rows leaves the framebuffer it started from, without a hit. -/
theorem drawOfNoRowsAndBeyondMemory : Obligations.DrawOfNoRowsAndBeyondMemory := by
  refine fun x y s => ⟨?_, fun n hn h => exec_drw_beyondMemory hn h⟩
  have frame : (s.drawn x y 0).FB = s.FB := by rw [State.drawn_FB, State.blit_zero]
  refine ⟨_, exec_drw_inMemory (.inl rfl), ?_, fun _ => s.getV_drawn x y 0, ?_, s.sameMemory_drawn x y 0⟩
  · exact s.getV_vf_drawn x y 0
  · exact (s.drawn_eq x y 0).trans (by rw [frame])

/-! ### The same draw twice (R202) -/

/-- Settles O30: both draws XOR the same sprite, so the second undoes the first, and it collides where the first lit a
pixel. -/
theorem drawingTwiceRestoresTheFramebuffer : Obligations.DrawingTwiceRestoresTheFramebuffer := by
  intro x y n s t hn hmem hst hx hy
  obtain ⟨t', hst', firstPixel, firstFlag, firstHit, -, -, frame, memory⟩ := drawXorsTheSprite x y n s hn hmem
  obtain rfl : t' = t := Host.Outcome.next.inj (hst'.symm.trans hst)
  have hI : t'.I = s.I := by rw [frame]
  obtain ⟨u, htu, secondPixel, -, secondHit, -⟩ := drawXorsTheSprite x y n t' hn (by rwa [hI])
  simp only [hx, hy, State.spriteOn_congr hI memory] at secondPixel secondHit
  have relit : u.getV 15 = 1 ↔
      ∃ py px, s.FB.pixel py px = false ∧ s.spriteOn (s.getV x).toNat (s.getV y).toNat n py px := by
    refine secondHit.trans (exists₂_congr fun py px => and_congr_left fun on => ?_)
    rw [firstPixel, iff_true_right on, Bool.not_eq_true]
  refine ⟨u, htu, Frame.ext_pixel fun py px => Bool.eq_iff_iff.2 ?_, relit, fun dark => ⟨?_, ?_⟩⟩
  · by_cases on : s.spriteOn (s.getV x).toNat (s.getV y).toNat n py px
    · simp only [secondPixel, firstPixel, on, iff_true, not_not]
    · simp only [secondPixel, firstPixel, on, iff_false, not_not]
  · refine firstFlag.resolve_right fun h => ?_
    obtain ⟨py, px, lit, -⟩ := firstHit.1 h
    exact absurd lit (by simp [dark])
  · rw [relit, ← s.exists_spriteOn_iff (s.getV x).toNat (s.getV y).toNat]
    simp only [dark, true_and]

/-! ### `00E0` (R198) -/

/-- Settles O27: the next state is `s.setFrame Frame.clear`. -/
theorem clearZeroesTheFramebuffer : Obligations.ClearZeroesTheFramebuffer :=
  fun s => ⟨s.setFrame Frame.clear, rfl, Frame.pixel_clear, rfl, rfl, fun _ => rfl⟩

/-! ### The flush (R207, R208) -/

/-- `m` rows of `n` entries, one after the other, are the `n * m` entries in row-major order. -/
theorem flatMap_range_rows {α : Type} (f : Nat → Nat → α) (m : Nat) {n : Nat} (hn : 0 < n) :
    ((List.range m).flatMap fun i => (List.range n).map (f i)) =
      (List.range (n * m)).map fun k => f (k / n) (k % n) := by
  induction m with
  | zero => simp
  | succ m ih =>
    rw [List.range_succ, List.flatMap_append, ih, List.flatMap_singleton, Nat.mul_succ, List.range_add,
      List.map_append, List.map_map]
    refine congrArg _ (List.map_congr_left fun j hj => ?_)
    have hj : j < n := List.mem_range.1 hj
    rw [Function.comp_apply, Nat.mul_add_div hn, Nat.div_eq_of_lt hj, Nat.add_zero, Nat.mul_add_mod,
      Nat.mod_eq_of_lt hj]

theorem State.pixelEvents_eq (s : State) :
    s.pixelEvents =
      (List.range 2048).map fun k => s.pixelEvent (Fin.ofNat 32 (k / 64)) (Fin.ofNat 64 (k % 64)) :=
  flatMap_range_rows (fun i j => s.pixelEvent (Fin.ofNat 32 i) (Fin.ofNat 64 j)) 32 (by decide)

theorem State.length_pixelEvents (s : State) : s.pixelEvents.length = 2048 := by
  rw [State.pixelEvents_eq, List.length_map, List.length_range]

/-- The event numbered `64 * py + px` is that of the pixel in column `px` and row `py` (R207, D22). -/
theorem State.getElem?_pixelEvents (s : State) (py : Fin 32) (px : Fin 64) :
    s.pixelEvents[64 * py.val + px.val]? = some (s.pixelEvent py px) := by
  have hk : 64 * py.val + px.val < 2048 := by omega
  have hrow : Fin.ofNat 32 ((64 * py.val + px.val) / 64) = py := Fin.ext (by simp only [Fin.val_ofNat]; omega)
  have hcol : Fin.ofNat 64 ((64 * py.val + px.val) % 64) = px := Fin.ext (by simp only [Fin.val_ofNat]; omega)
  rw [State.pixelEvents_eq, List.getElem?_map, List.getElem?_range hk, Option.map_some, hrow, hcol]

/-- Settles O31, from the events of a flush by position. -/
theorem flushReportsEveryPixelOnce : Obligations.FlushReportsEveryPixelOnce :=
  fun s => ⟨fun dirty => ⟨s.pixelEvents, if_pos dirty, s.length_pixelEvents, s.getElem?_pixelEvents⟩,
    fun clean => if_neg (by rw [clean]; decide)⟩

end Sys2Proof.Machine
end

section
/-! PROOF. The statements of 44_keypad_debounce: the key map (R224), `press` and `release` (R225 to R227), the sweep
(R223, R229), the key instructions (R232 to R235), alone and behind the sweep of their own step, and the order of clock
samples and stamps (R222, R230). -/

namespace Sys2Proof.Machine

/-! ### The order of clock samples and stamps (R222, R230) -/

/-- The order speaks of four fields alone. -/
theorem State.ClockOk.congr {s t : State} (hs : s.ClockOk) (hpending : t.pending = s.pending) (hclock : t.clock = s.clock)
    (hkey : t.key = s.key) (hstamp : t.stamp = s.stamp) : t.ClockOk where
  rise := by
    rw [hclock, hpending]
    exact hs.rise
  stamps k := by
    rw [hkey, hstamp, hclock]
    exact hs.stamps k

/-- Samples that rise with a first command to come rise without it. -/
theorem samplesRise_tail {t : Nat} {c : Command} {cs : List Command} (h : samplesRise t (c :: cs)) : samplesRise t cs := by
  cases c with
  | step now rnd => exact samplesRise_of_le h.2 h.1
  | press sym now => exact samplesRise_of_le h.2 h.1
  | _ => exact h

/-- The command carried out next, queued or free, rises with those queued after it. -/
theorem State.ClockOk.rise_nextCommand {s : State} (hs : s.ClockOk) :
    samplesRise s.clock (s.nextCommand :: s.dequeue.pending) := by
  have hrise := hs.rise
  cases hpending : s.pending with
  | nil =>
    rw [State.nextCommand_nil s hpending, State.dequeue, hpending]
    exact ⟨Nat.le_add_right _ _, trivial⟩
  | cons c cs =>
    rw [hpending] at hrise
    rw [State.nextCommand_cons s c cs hpending, State.dequeue, hpending]
    exact hrise

theorem State.ClockOk.dequeue {s : State} (hs : s.ClockOk) : s.dequeue.ClockOk :=
  ⟨samplesRise_tail hs.rise_nextCommand, hs.stamps⟩

/-- Phases 3 to 6 (R284) touch neither the clock nor the keys. -/
theorem State.ClockOk.runWord {s t : State} {w : Word} (hs : s.ClockOk) (h : s.runWord w = .next t) : t.ClockOk := by
  obtain ⟨i, v, -, hexec, rfl⟩ | ⟨e, -, rfl⟩ := State.runWord_cases h
  · obtain ⟨hkey, hstamp, -, -, -, hpending, hclock, -⟩ := (exec_effect hexec).frame
    exact hs.congr (by simp [hpending]) (by simp [hclock]) (by simp [hkey]) (by simp [hstamp])
  · exact hs.congr (by simp) (by simp) (by simp) (by simp)

section
variable {s : State} {now : Nat} (hs : s.ClockOk) (hnow : s.clock ≤ now) (rise : samplesRise now s.pending)
include hs hnow rise

/-- The sweep presses no key, and the sample it is made at is not below the last one. -/
theorem State.ClockOk.swept (rnd : Byte) : (s.swept now rnd).ClockOk where
  rise := rise
  stamps k hk := by
    rw [State.swept_key, Bool.and_eq_true] at hk
    exact (hs.stamps k hk.1).trans hnow

/-- The command `step`, STOPPED or RUNNING, with a word to fetch or beyond memory. -/
theorem State.ClockOk.stepCommand {t : State} {rnd : Byte} (h : s.stepCommand now rnd = .next t) : t.ClockOk := by
  have hswept : (s.swept now rnd).ClockOk := hs.swept hnow rise rnd
  obtain ⟨-, rfl⟩ | ⟨-, -, rfl⟩ | ⟨-, -, hrun⟩ := State.stepCommand_cases h
  · exact hs.congr rfl rfl rfl rfl
  · exact hswept.congr rfl rfl rfl rfl
  · exact hswept.runWord hrun

/-- A pressed key is stamped with the sample of its press. -/
theorem State.ClockOk.pressKey (k : Fin 16) : (s.pressKey k now).ClockOk where
  rise := rise
  stamps j hj := by
    rw [State.pressKey_stamp, State.pressKey_clock]
    rw [State.pressKey_key] at hj
    split at hj
    · rw [if_pos ‹_›]
    · rw [if_neg ‹_›]
      exact (hs.stamps j hj).trans hnow

theorem State.ClockOk.press (sym : Symbol) : (s.press sym now).ClockOk := by
  unfold State.press
  split
  · exact hs.pressKey hnow rise _
  · exact hs.congr rfl rfl rfl rfl

end

theorem State.ClockOk.release {s : State} (hs : s.ClockOk) (sym : Symbol) : (s.release sym).ClockOk := by
  unfold State.release
  split
  · refine ⟨hs.rise, fun j hj => hs.stamps j ?_⟩
    rw [State.releaseKey_key] at hj
    split at hj
    · cases hj
    · exact hj
  · exact hs.congr rfl rfl rfl rfl

theorem State.ClockOk.loadProgram {s : State} (hs : s.ClockOk) (bytes : List Byte) : (s.loadProgram bytes).ClockOk := by
  unfold State.loadProgram
  split
  · exact hs.congr (by simp) (by simp) (by simp) (by simp)
  · exact hs.congr rfl rfl rfl rfl

/-- After `reset` no key is pressed, and the host's clock and queue are as before (R288). -/
theorem State.ClockOk.resetCommand {s : State} (hs : s.ClockOk) : s.resetCommand.ClockOk where
  rise := hs.rise
  stamps k hk := by simp [State.construct] at hk

/-- Every command of the host that takes its sample in order keeps the order (R280). -/
theorem State.ClockOk.command {s t : State} (hs : s.ClockOk) {c : Command} (rise : samplesRise s.clock (c :: s.pending))
    (h : s.command c = .next t) : t.ClockOk := by
  have hbegin : s.begin.ClockOk := hs.congr rfl rfl rfl rfl
  cases c with
  | reset => cases h; exact hbegin.resetCommand
  | start => cases h; exact hs.congr rfl rfl rfl rfl
  | stop => cases h; exact hs.congr rfl rfl rfl rfl
  | step now rnd => exact hbegin.stepCommand rise.1 rise.2 h
  | press sym now => cases h; exact hbegin.press rise.1 rise.2 sym
  | release sym => cases h; exact hbegin.release sym
  | loadProgram bytes => cases h; exact hbegin.loadProgram bytes

/-- Settles O58: the step is one command on the state without it, and its sample is in order. -/
theorem stepKeepsTheClockOrder : Obligations.StepKeepsTheClockOrder := by
  intro s t hs h
  rw [step_eq] at h
  exact hs.dequeue.command hs.rise_nextCommand h

/-! ### The sweep (R223, R229) -/

/-- The strict window of R230, by what is left of it. -/
theorem State.sweep_key_iff (s : State) (now : Nat) (k : Fin 16) :
    (s.sweep now).key[k.val] = true ↔ s.key[k.val] = true ∧ now - s.stamp[k.val] ≤ s.params.debounceMs := by
  simp only [State.sweep_key, Bool.and_eq_true, Bool.not_eq_true', decide_eq_false_iff_not, Nat.not_lt]

/-- Settles O34, key by key; the sweep writes the keys alone. -/
theorem sweepReleasesElapsedKeys : Obligations.SweepReleasesElapsedKeys :=
  fun s now => ⟨s.sweep_key_iff now, rfl⟩

/-! ### The key instructions (R232 to R235) -/

section
variable {x : Reg} {s : State}

theorem State.keyAt_getV {k : Fin 16} (h : (s.getV x).toNat = k.val) : s.keyAt (s.getV x) = some s.key[k.val] := by
  rw [State.keyAt_some s _ (h ▸ k.isLt)]
  simp only [h]

/-- `Ex9E` with a key code in `V[x]`. -/
theorem exec_skp_key {k : Fin 16} (h : (s.getV x).toNat = k.val) : exec (.skp x) s = .next (s.skipIf s.key[k.val]) := by
  simp only [exec, execSkp, State.keyAt_getV h]

/-- `ExA1` with a key code in `V[x]`. -/
theorem exec_sknp_key {k : Fin 16} (h : (s.getV x).toNat = k.val) :
    exec (.sknp x) s = .next (s.skipIf (!s.key[k.val])) := by
  simp only [exec, execSknp, State.keyAt_getV h]

/-- `Ex9E` with no key code in `V[x]` (R235). -/
theorem exec_skp_noKey (h : 15 < (s.getV x).toNat) :
    exec (.skp x) s = .next (s.takeFault .keyIndexRange (s.getV x).toNat) := by
  simp only [exec, execSkp, State.keyAt_none s _ h]

/-- `ExA1` with no key code in `V[x]` (R235). -/
theorem exec_sknp_noKey (h : 15 < (s.getV x).toNat) :
    exec (.sknp x) s = .next (s.takeFault .keyIndexRange (s.getV x).toNat) := by
  simp only [exec, execSknp, State.keyAt_none s _ h]

end

/-- A skip on a bit that is 0. -/
theorem State.skipIf_not (s : State) (b : Bool) : s.skipIf (!b) = { s with PC := if b then s.PC else s.PC + 2 } := by
  cases b <;> rfl

/-- Settles O35, from what the two instructions do with a key code and without one. -/
theorem keySkipsTestTheKey : Obligations.KeySkipsTestTheKey := by
  refine fun x s => ⟨fun k hk => ⟨?_, ?_⟩, fun h => ⟨exec_skp_noKey h, exec_sknp_noKey h⟩⟩
  · rw [exec_skp_key hk, State.skipIf_eq]
  · rw [exec_sknp_key hk, State.skipIf_not]

/-- Settles O36: the arm of `Fx0A` answers the state it is given. -/
theorem keyWaitIsNoOperation : Obligations.KeyWaitIsNoOperation := fun _ _ => rfl

/-! ### A key skip behind the sweep of its own step (R284) -/

/-- A RUNNING `step` that fetches an instruction: it runs on the swept state, `PC` advanced. -/
theorem step_of_fetch {s t : State} {now : Nat} {rnd : Byte} {i : Instr} (hnext : s.nextCommand = .step now rnd)
    (hrun : s.running = true) (hpc : s.PC.toNat ≤ 4094) (hdecode : decode s.wordAtPC = .ok i)
    (hexec : exec i (s.atFetch now rnd).advancePC = .next t) : step s = .next t.finish := by
  rw [step_step s hnext, State.stepCommand_fetch s.dequeue.begin now rnd hrun hpc]
  exact State.runWord_ok _ hdecode hexec

/-- A key in the state in which the step fetches. -/
theorem State.atFetch_key_iff (s : State) (now : Nat) (rnd : Byte) (k : Fin 16) :
    (s.atFetch now rnd).key[k.val] = true ↔ s.key[k.val] = true ∧ now - s.stamp[k.val] ≤ s.params.debounceMs :=
  State.sweep_key_iff _ now k

/-- Settles O37: the skip tests the swept key, which the rest of the step leaves alone. -/
theorem keySkipSeesTheSweep : Obligations.KeySkipSeesTheSweep := by
  intro s now rnd x k hnext hrun hpc hdecode hV hkey
  have hswept : (s.atFetch now rnd).key[k.val] = true ↔ now - s.stamp[k.val] ≤ s.params.debounceMs :=
    (s.atFetch_key_iff now rnd k).trans (and_iff_right hkey)
  have hV' : ((s.atFetch now rnd).advancePC.getV x).toNat = k.val := hV
  refine ⟨_, step_of_fetch hnext hrun hpc hdecode (exec_skp_key hV'), ?_, ?_⟩
  · rw [State.finish_PC, State.skipIf_eq]
    exact if_congr hswept rfl rfl
  · rw [State.finish_key, State.skipIf_key]
    exact hswept

/-! ### The key map, `press` and `release` (R224 to R227) -/

/-- Settles O33: one case per row of the table, and one for every other symbol. -/
theorem keymapIsTheTable : Obligations.KeymapIsTheTable := by
  intro sym k
  unfold keyCode
  split
  case h_17 => simp_all -- no row: `sym` is none of the 16 symbols
  all_goals simp [eq_comm]

section
variable (s : State) {sym : Symbol} (now : Nat)

theorem State.command_press_key {k : Fin 16} (h : keyCode sym = some k) :
    s.command (.press sym now) = .next (s.begin.pressKey k now) := by
  simp only [State.command, State.press, h]

theorem State.command_release_key {k : Fin 16} (h : keyCode sym = some k) :
    s.command (.release sym) = .next (s.begin.releaseKey k) := by
  simp only [State.command, State.release, h]

theorem State.command_press_unknown (h : keyCode sym = none) :
    s.command (.press sym now) = .next (s.begin.invalidKey sym) := by
  simp only [State.command, State.press, h]

theorem State.command_release_unknown (h : keyCode sym = none) :
    s.command (.release sym) = .next (s.begin.invalidKey sym) := by
  simp only [State.command, State.release, h]

end

/-- Settles O32, from what a press and a release do to every key and stamp. -/
theorem pressAndReleaseActOnOneKey : Obligations.PressAndReleaseActOnOneKey := by
  refine fun s sym now => ⟨fun k hk => ⟨?_, ?_⟩, fun hk => ⟨?_, ?_⟩⟩
  · exact ⟨_, s.command_press_key now hk, State.pressKey_key _ k now, State.pressKey_stamp _ k now, rfl⟩
  · exact ⟨_, s.command_release_key hk, State.releaseKey_key _ k, rfl⟩
  · exact s.command_press_unknown now hk
  · exact s.command_release_unknown hk

end Sys2Proof.Machine
end

section
/-! PROOF. The statements of 45_timers: the tick (R250 to R254), its audio edges (R256, R263), the three timer
instructions (R259 to R261), and a timer written and ticked in the same step (R258). -/

namespace Sys2Proof.Machine

/-! ### One tick (R251, R254) -/

/-- The delay clause counts `DT` down, and the sound clause leaves it alone. -/
theorem State.tick_DT (s : State) : s.tick.DT.toNat = s.DT.toNat - 1 := by
  rw [State.tick, State.tickSound_eq]
  exact s.tickDelay_DT

theorem State.tick_ST (s : State) : s.tick.ST.toNat = s.ST.toNat - 1 := by
  rw [State.tick, State.tickSound_ST, State.tickDelay_ST]

theorem State.tick_ST_eq_zero {s : State} (h : s.ST.toNat ≤ 1) : s.tick.ST = 0 :=
  BitVec.eq_of_toNat_eq (s.tick_ST.trans (Nat.sub_eq_zero_of_le h))

/-- Whatever the host was told before, after the tick it has been told on exactly when the timer has not run out (R253). -/
theorem State.tick_sounding (s : State) : s.tick.sounding = decide (1 < s.ST.toNat) := by
  have h : s.tick.sounding = decide (0 < s.tick.ST.toNat) := s.tickDelay.tickSound_soundOk
  rw [h, s.tick_ST]
  exact decide_eq_decide.2 Nat.sub_pos_iff_lt

/-- The edges of R256 cases 1 and 5. -/
theorem State.tick_events_zero {s : State} (h : s.ST.toNat = 0) :
    s.tick.events = s.events ++ if s.sounding then [.audio false] else [] := by
  rw [State.tick, State.tickSound_zero _ (by rwa [State.tickDelay_ST])]
  simp

/-- The edges of R256 cases 4 and 6. -/
theorem State.tick_events_one {s : State} (h : s.ST.toNat = 1) :
    s.tick.events = s.events ++ if s.sounding then [.audio false] else [.audio true, .audio false] := by
  rw [State.tick, State.tickSound_one _ (by rwa [State.tickDelay_ST])]
  simp

/-- The edges of R256 cases 2 and 3. -/
theorem State.tick_events_more {s : State} (h : 2 ≤ s.ST.toNat) :
    s.tick.events = s.events ++ if s.sounding then [] else [.audio true] := by
  rw [State.tick, State.tickSound_more _ (by rwa [State.tickDelay_ST])]
  simp

/-- Settles O39: each case is its row of `tick_events_zero`, `_one` or `_more`. -/
theorem soundClauseSixCases : Obligations.SoundClauseSixCases := by
  refine fun s => ⟨fun h hs => ?_, fun h hs => ?_, fun h hs => ?_, fun h hs => ?_, fun h hs => ?_, fun h hs => ?_⟩
  · exact ⟨State.tick_ST_eq_zero (by omega), by simp [s.tick_sounding, h], by simp [State.tick_events_zero h, hs]⟩
  · exact ⟨s.tick_ST, s.tick_sounding.trans (decide_eq_true h), by simp [State.tick_events_more h, hs]⟩
  · exact ⟨s.tick_ST, s.tick_sounding.trans (decide_eq_true h), by simp [State.tick_events_more h, hs]⟩
  · exact ⟨State.tick_ST_eq_zero h.le, by simp [s.tick_sounding, h], by simp [State.tick_events_one h, hs]⟩
  · exact ⟨State.tick_ST_eq_zero (by omega), by simp [s.tick_sounding, h], by simp [State.tick_events_zero h, hs]⟩
  · exact ⟨State.tick_ST_eq_zero h.le, by simp [s.tick_sounding, h], by simp [State.tick_events_one h, hs]⟩

/-! ### Many ticks (R251, R263) -/

/-- A counter that every tick takes down by 1, with a floor at 0, is down by `k` after `k` ticks. -/
theorem State.iterate_tick_countdown {counter : State → Nat} (h : ∀ s : State, counter s.tick = counter s - 1) (k : Nat)
    (s : State) : counter (State.tick^[k] s) = counter s - k := by
  have hsemi : Function.Semiconj counter State.tick Nat.pred := h
  rw [hsemi.iterate_right k s, Nat.pred_iterate]

theorem State.iterate_tick_ST (k : Nat) (s : State) : (State.tick^[k] s).ST.toNat = s.ST.toNat - k :=
  State.iterate_tick_countdown (counter := fun s => s.ST.toNat) State.tick_ST k s

/-- Settles O38: both timers are such counters. -/
theorem timersCountDownToZero : Obligations.TimersCountDownToZero :=
  fun k s => ⟨State.iterate_tick_countdown (counter := fun s => s.DT.toNat) State.tick_DT k s, s.iterate_tick_ST k⟩

theorem State.iterate_tick_sounding (k : Nat) (s : State) :
    (State.tick^[k + 1] s).sounding = decide (k + 1 < s.ST.toNat) := by
  rw [Function.iterate_succ_apply', State.tick_sounding, State.iterate_tick_ST]
  exact decide_eq_decide.2 (by omega)

/-- The events of the ticks after a timer was set while silent: on with the first, off with the one that reaches 0. -/
theorem State.iterate_tick_events {s : State} (hpos : 0 < s.ST.toNat) (hs : s.sounding = false) (k : Nat) :
    (State.tick^[k + 1] s).events =
      s.events ++ if k + 1 < s.ST.toNat then [.audio true] else [.audio true, .audio false] := by
  induction k with
  | zero =>
    obtain h | h : s.ST.toNat = 1 ∨ 2 ≤ s.ST.toNat := by omega
    · simp [State.tick_events_one h, hs, h]
    · simp [State.tick_events_more h, hs, show 1 < s.ST.toNat from h]
  | succ k ih =>
    have hST := s.iterate_tick_ST (k + 1)
    have hsounding := s.iterate_tick_sounding k
    rw [Function.iterate_succ_apply']
    obtain h | h | h : s.ST.toNat ≤ k + 1 ∨ s.ST.toNat = k + 2 ∨ k + 2 < s.ST.toNat := by omega
    · rw [State.tick_events_zero (by omega), ih, hsounding]
      simp [show ¬ k + 1 < s.ST.toNat by omega, show ¬ k + 1 + 1 < s.ST.toNat by omega]
    · rw [State.tick_events_one (by omega), ih, hsounding]
      simp [h]
    · rw [State.tick_events_more (by omega), ih, hsounding]
      simp [show k + 1 < s.ST.toNat by omega, show k + 1 + 1 < s.ST.toNat from h]

/-- Settles O40, from the events and the sounding after `k` ticks. -/
theorem soundIsSwitchedOnOnceAndOffOnce : Obligations.SoundIsSwitchedOnOnceAndOffOnce := by
  intro s k hpos hs hk
  obtain ⟨k, rfl⟩ := Nat.exists_eq_succ_of_ne_zero hk.ne'
  have hevents := State.iterate_tick_events hpos hs k
  have hsounding := s.iterate_tick_sounding k
  refine ⟨fun h => ⟨?_, ?_⟩, fun h => ⟨?_, ?_⟩⟩
  · rw [hevents, if_pos h]
  · exact hsounding.trans (decide_eq_true h)
  · rw [hevents, if_neg h.not_gt]
  · exact hsounding.trans (decide_eq_false h.not_gt)

/-! ### The timer instructions (R258 to R261) -/

/-- `Fx15` (R260). -/
theorem exec_ldDTVx (x : Reg) (s : State) : exec (.ldDTVx x) s = .next (s.setDT (s.getV x)) := rfl

/-- `Fx18` (R261). -/
theorem exec_ldSTVx (x : Reg) (s : State) : exec (.ldSTVx x) s = .next (s.setST (s.getV x)) := rfl

/-- Settles O41: `Fx07` is `s.setV` of `DT`, the other two are one field update each. -/
theorem timerInstructionsMoveOneByte : Obligations.TimerInstructionsMoveOneByte :=
  fun x s => ⟨⟨_, rfl, s.getV_setV_same x _, s.setV_frame x _⟩, exec_ldDTVx x s, exec_ldSTVx x s⟩

/-- A step that did not fault ends with the delay timer ticked. -/
theorem State.finish_DT {s : State} (h : s.faulted = false) : s.finish.DT.toNat = s.DT.toNat - 1 := by
  rw [State.finish_ok s h, State.flushIfDirty_DT, State.tick_DT]

/-- A step that did not fault ends with the sound timer ticked. -/
theorem State.finish_ST {s : State} (h : s.faulted = false) : s.finish.ST.toNat = s.ST.toNat - 1 := by
  rw [State.finish_ok s h, State.flushIfDirty_ST, State.tick_ST]

/-- Settles O42: the write leaves the step not faulted, so the tick at its end finds the value written. -/
theorem timerWriteTicksInItsOwnStep : Obligations.TimerWriteTicksInItsOwnStep := by
  refine fun s now rnd x hnext hrun hpc => ⟨fun hdecode => ?_, fun hdecode => ?_⟩
  · exact ⟨_, step_of_fetch hnext hrun hpc hdecode (exec_ldDTVx x _), State.finish_DT rfl⟩
  · exact ⟨_, step_of_fetch hnext hrun hpc hdecode (exec_ldSTVx x _), State.finish_ST rfl⟩

end Sys2Proof.Machine
end

section
/-! PROOF. The statements of 46_scheduler_and_host: every command answers a next state (R298), which of them change the run
state (R282), the ways of a `step` (R284 to R287), the command a step of the model takes (R280, logs 2 and 3), and a program
loaded after `reset` (R289). -/

namespace Sys2Proof.Machine

/-! ### Every command answers (R298, 93_implementation_defined Part 1) -/

/-- No instruction is without a meaning: each arm, and each branch of the arms that can raise a fault, answers. -/
theorem exec_answers (i : Instr) (s : State) : ∃ t, exec i s = .next t := by
  cases i with
  | ret | call | drw | skp | sknp | ldB | storeRegs | loadRegs =>
    simp only [exec, execRet, execCall, execDrw, execSkp, execSknp, execLdB, execStoreRegs, execLoadRegs]
    split <;> exact ⟨_, rfl⟩
  | _ => exact ⟨_, rfl⟩

theorem State.runWord_answers (s : State) (w : Word) : ∃ t, s.runWord w = .next t := by
  cases hdecode : decode w with
  | ok i =>
    obtain ⟨t, hexec⟩ := exec_answers i s.advancePC
    exact ⟨_, s.runWord_ok hdecode hexec⟩
  | error e => exact ⟨_, s.runWord_error hdecode⟩

theorem State.stepCommand_answers (s : State) (now : Nat) (rnd : Byte) : ∃ t, s.stepCommand now rnd = .next t := by
  cases hrun : s.running with
  | false => exact ⟨_, s.stepCommand_stopped now rnd hrun⟩
  | true =>
    obtain hpc | hpc := le_or_gt s.PC.toNat 4094
    · rw [s.stepCommand_fetch now rnd hrun hpc]
      exact State.runWord_answers _ _
    · exact ⟨_, s.stepCommand_beyond now rnd hrun hpc⟩

theorem State.command_answers (s : State) (c : Command) : ∃ t, s.command c = .next t := by
  cases c with
  | step now rnd => exact s.begin.stepCommand_answers now rnd
  | _ => exact ⟨_, rfl⟩

/-! ### What leaves the run state and the construction arguments alone (R282, R289) -/

/-- The machine of `t` is that of `s`: RUNNING or STOPPED as it was, and with the same arguments. -/
def State.SameMachine (s t : State) : Prop := t.running = s.running ∧ t.params = s.params

/-- Phases 3 to 6 (R284): neither the instruction, nor a report, nor what ends the step. -/
theorem State.runWord_sameMachine {s t : State} {w : Word} (h : s.runWord w = .next t) : s.SameMachine t := by
  obtain ⟨i, v, -, hexec, rfl⟩ | ⟨e, -, rfl⟩ := State.runWord_cases h
  · obtain ⟨-, -, -, hrunning, hparams, -⟩ := (exec_effect hexec).frame
    exact ⟨v.finish_running.trans hrunning, v.finish_params.trans hparams⟩
  · exact ⟨State.finish_running _, State.finish_params _⟩

theorem State.stepCommand_sameMachine {s t : State} {now : Nat} {rnd : Byte} (h : s.stepCommand now rnd = .next t) :
    s.SameMachine t := by
  obtain ⟨-, rfl⟩ | ⟨-, -, rfl⟩ | ⟨-, -, hrun⟩ := State.stepCommand_cases h
  · exact ⟨rfl, rfl⟩
  · exact ⟨rfl, rfl⟩
  · exact State.runWord_sameMachine (s := s.swept now rnd) hrun

theorem State.press_sameMachine (s : State) (sym : Symbol) (now : Nat) : s.SameMachine (s.press sym now) := by
  unfold State.press
  split <;> exact ⟨rfl, rfl⟩

theorem State.release_sameMachine (s : State) (sym : Symbol) : s.SameMachine (s.release sym) := by
  unfold State.release
  split <;> exact ⟨rfl, rfl⟩

theorem State.loadProgram_sameMachine (s : State) (bytes : List Byte) : s.SameMachine (s.loadProgram bytes) := by
  unfold State.loadProgram
  split
  · exact ⟨s.writeBytes_running _ _, s.writeBytes_params _ _⟩
  · exact ⟨rfl, rfl⟩

/-- The run state after a command, given the one before it (R282). -/
def Command.runStateAfter : Command → Bool → Bool
  | .start, _ => true
  | .stop, _ => false
  | .reset, _ => false
  | .step _ _, running => running
  | .press _ _, running => running
  | .release _, running => running
  | .loadProgram _, running => running

/-- Every command leaves the run state it names and the construction arguments, which are the machine's for life (R289). -/
theorem State.command_effect {s t : State} {c : Command} (h : s.command c = .next t) :
    t.running = c.runStateAfter s.running ∧ t.params = s.params := by
  cases c with
  | reset | start | stop => cases h; exact ⟨rfl, rfl⟩
  | step now rnd => exact State.stepCommand_sameMachine (s := s.begin) h
  | press sym now => cases h; exact s.begin.press_sameMachine sym now
  | release sym => cases h; exact s.begin.release_sameMachine sym
  | loadProgram bytes => cases h; exact s.begin.loadProgram_sameMachine bytes

/-- Settles O50, from the run state after each command; neither an instruction nor a fault is among what changes it. -/
theorem runStateChangesOnlyByCommand : Obligations.RunStateChangesOnlyByCommand := by
  refine ⟨fun p => rfl, fun s t c h => ?_⟩
  obtain ⟨hrunning, -⟩ := State.command_effect h
  rw [hrunning]
  cases c <;> rfl

/-- Settles O60: the step is one command on the state without it. -/
theorem everyStepAnswers : Obligations.EveryStepAnswers := by
  intro s
  obtain ⟨t, ht⟩ := s.dequeue.command_answers s.nextCommand
  obtain ⟨-, hparams⟩ := State.command_effect ht
  exact ⟨t, ht, hparams⟩

/-! ### The ways of a `step` (R284 to R287) -/

/-- Settles O43: the instruction answers, and what is left of the step is the tick and the flush, or nothing. -/
theorem stepRunsTheDecodedInstruction : Obligations.StepRunsTheDecodedInstruction := by
  intro s now rnd i hnext hrun hpc hdecode
  obtain ⟨u, hexec⟩ := exec_answers i { s.atFetch now rnd with PC := s.PC + 2 }
  rw [hexec]
  exact step_of_fetch hnext hrun hpc hdecode hexec

/-- Settles O44: a report is no fault, so the step ends with the tick and the flush. -/
theorem stepReportsAnUnrecognizedWord : Obligations.StepReportsAnUnrecognizedWord := by
  intro s now rnd e hnext hrun hpc hdecode
  rw [step_step s hnext, State.stepCommand_fetch s.dequeue.begin now rnd hrun hpc]
  refine (State.runWord_error _ hdecode).trans ?_
  rw [State.finish_ok _ rfl]
  rfl

/-- Settles O45: the fault is taken in the swept state. -/
theorem stepBeyondMemoryFaults : Obligations.StepBeyondMemoryFaults := by
  intro s now rnd hnext hrun hpc
  rw [step_step s hnext, State.stepCommand_beyond s.dequeue.begin now rnd hrun hpc]
  rfl

/-- Settles O46: nothing is done after the command began. -/
theorem stoppedStepDoesNothing : Obligations.StoppedStepDoesNothing := by
  intro s now rnd hnext hrun
  rw [step_step s hnext, State.stepCommand_stopped s.dequeue.begin now rnd hrun]
  rfl

/-! ### The next command (R280, logs 2 and 3) -/

theorem State.dequeue_cons {s : State} {c : Command} {cs : List Command} (h : s.pending = c :: cs) :
    s.dequeue = { s with pending := cs } := by
  rw [State.dequeue, h, List.tail_cons]

theorem State.dequeue_nil {s : State} (h : s.pending = []) : s.dequeue = s := by
  rw [State.dequeue, h, List.tail_nil, ← h]

/-- Settles O47: with an empty queue the command is the free step, whose sample is the last one and a gap. -/
theorem stepTakesTheNextCommand : Obligations.StepTakesTheNextCommand := by
  refine fun s => ⟨fun c cs h => ?_, fun h =>
    ⟨s.clock + Config.clockGap s.draws, Config.freeDraw s.draws, Nat.le_add_right _ _, ?_⟩⟩
  · rw [step_eq, State.nextCommand_cons s c cs h, State.dequeue_cons h]
  · rw [step_eq, State.nextCommand_nil s h, State.dequeue_nil h, State.freeStep]

/-! ### `loadProgram` after `reset` (R289, R290) -/

/-- The memory after a write of bytes is a function of the memory and the arguments before it. -/
theorem State.writeBytes_mem_congr (vs : List Byte) : ∀ {s t : State} (a : Nat), t.mem = s.mem → t.params = s.params →
    (t.writeBytes a vs).mem = (s.writeBytes a vs).mem := by
  induction vs with
  | nil => exact fun _ hmem _ => hmem
  | cons v vs ih =>
    intro s t a hmem hparams
    refine ih (a + 1) ?_ (by simpa using hparams)
    unfold State.writeByte
    split
    · rw [hmem, hparams]
    · exact hmem

/-- Settles O53: after `reset` memory and arguments are those of the new machine, and the same bytes are written. -/
theorem resetThenLoadEqualsFreshLoad : Obligations.ResetThenLoadEqualsFreshLoad := by
  intro s bytes h
  refine ⟨_, _, _, rfl, rfl, rfl, ?_⟩
  rw [State.loadProgram_fits _ h, State.loadProgram_fits _ h]
  have hmem := State.writeBytes_mem_congr bytes 0x200 (s := (State.construct s.params).begin)
    (t := s.begin.resetCommand.begin) rfl rfl
  exact ⟨hmem, State.readByte_congr hmem (by simp [State.construct])⟩

end Sys2Proof.Machine
end

section
/-! PROOF. The statements of 60_exceptions: what each instruction does under its row of the table of causes (R321), and the
step that is cut short when its instruction raises a fault (R326). -/

namespace Sys2Proof.Machine

/-! ### What an instruction answers, row by row (R321, R325, R326) -/

/-- The outcome an instruction owes to its row of R321: the fault of the row with nothing else changed (R326), or a next
state that keeps the result. -/
def State.AnswersRow (s : State) (o : Outcome) : Option (Cause × Nat) → Prop
  | some (c, n) => o = .next (s.takeFault c n)
  | none => ∃ t, o = .next t ∧ t.result = s.result

/-- A row that raises under one condition. -/
theorem State.AnswersRow.ite {s : State} {o : Outcome} {c : Cause} {n : Nat} {p : Prop} [Decidable p]
    (raises : p → o = .next (s.takeFault c n)) (answers : ¬ p → ∃ t, o = .next t ∧ t.result = s.result) :
    s.AnswersRow o (if p then some (c, n) else none) := by
  split
  · exact raises ‹p›
  · exact answers ‹¬ p›

theorem State.push_result (s : State) (v : Word) (h : s.SP.val < 16) : (s.push v).result = s.result := by
  rw [s.push_room v h]

/-- Every instruction answers as its row of R321 says: the rows that raise one by one, then those that never do. -/
theorem exec_answersRow (i : Instr) (s : State) : s.AnswersRow (exec i s) (faultOf i s) := by
  cases i with
  | call nnn =>
    refine .ite (exec_call_full nnn) fun h => ?_
    have room : s.SP.val < 16 := by omega
    exact ⟨_, exec_call_room nnn room, s.push_result s.PC room⟩
  | ret =>
    refine .ite (fun h => exec_ret_of_stackTop_none (s.stackTop_none.2 h)) fun h => ?_
    exact ⟨_, exec_ret_of_stackTop_some (s.stackTop_some h), rfl⟩
  | ldB x =>
    refine .ite (fun h => exec_ldB_beyondMemory (by omega)) fun h => ?_
    exact ⟨_, exec_ldB_inMemory (by omega), s.writeBytes_result _ _⟩
  | storeRegs x =>
    refine .ite exec_storeRegs_beyondMemory fun h => ?_
    exact ⟨_, exec_storeRegs_inMemory (by omega), s.writeBytes_result _ _⟩
  | loadRegs x =>
    refine .ite exec_loadRegs_beyondMemory fun h => ?_
    exact ⟨_, exec_loadRegs_inMemory (by omega), s.setRegs_result _ _⟩
  | drw x y n =>
    refine .ite (fun ⟨rows, h⟩ => exec_drw_beyondMemory rows h) fun h => ?_
    exact ⟨_, exec_drw_inMemory (by omega), rfl⟩
  | skp x =>
    refine .ite exec_skp_noKey fun h => ?_
    exact ⟨_, exec_skp_key (k := ⟨(s.getV x).toNat, by omega⟩) rfl, s.skipIf_result _⟩
  | sknp x =>
    refine .ite exec_sknp_noKey fun h => ?_
    exact ⟨_, exec_sknp_key (k := ⟨(s.getV x).toNat, by omega⟩) rfl, s.skipIf_result _⟩
  | seByte | sneByte | seReg | sneReg => exact ⟨_, rfl, s.skipIf_result _⟩
  | _ => exact ⟨_, rfl, rfl⟩

/-- An instruction whose row raises a fault records it and changes nothing else. -/
theorem exec_of_faultOf {i : Instr} {s : State} {c : Cause} {n : Nat} (h : faultOf i s = some (c, n)) :
    exec i s = .next (s.takeFault c n) := by
  have row := exec_answersRow i s
  rwa [h] at row

/-- Settles O48, by what the instruction answers under its row: the fault, or a state with the result it began with. -/
theorem faultsArePreciseAndFromTheTable : Obligations.FaultsArePreciseAndFromTheTable := by
  intro i s hok
  have row := exec_answersRow i s
  obtain hnone | ⟨⟨c, n⟩, hsome⟩ := (faultOf i s).eq_none_or_eq_some
  · rw [hnone] at row ⊢
    obtain ⟨t, hexec, hresult⟩ := row
    exact ⟨t, hexec, hresult.trans hok⟩
  · rw [hsome]
    exact ⟨_, exec_of_faultOf hsome, rfl⟩

/-! ### The step that is cut short (R326, R284) -/

/-- Settles O49: the instruction takes the fault on the swept state, `PC` advanced, and nothing follows a fault. -/
theorem faultingStepIsCutShort : Obligations.FaultingStepIsCutShort := by
  intro s now rnd i c n hnext hrun hpc hdecode hfault
  rw [step_of_fetch hnext hrun hpc hdecode (exec_of_faultOf hfault), State.finish_faulted _ rfl]
  rfl

end Sys2Proof.Machine
end
